-- ==== Sys2Proof/Word.lean ====
section
/-! DEFINITION. The words of the block: a command is one 64-bit word (30_encoding.md R85), every register access,
response and sample is one 32-bit word (20_memory.md R62, 30_encoding.md R93). -/

namespace Sys2Proof

/-- A command word, bit 63 the most significant (00_scope.md R10, 30_encoding.md R85). -/
abbrev CmdWord := BitVec 64

/-- A data, response or sample word (30_encoding.md R86, R92, R93). -/
abbrev DataWord := BitVec 32

/-- `zext_32(v)` (00_scope.md R11): the 32-bit word whose unsigned value is `v`, for `v` below 2^32. -/
def zext32 (v : Nat) : DataWord := BitVec.ofNat 32 v

end Sys2Proof
end

