-- ==== Sys2Proof/Machine/Types.lean ====
section
/-! DEFINITION. The enumerations of 00_scope.md R17, the register classes, the ports, and the small records the state is
built from: sections, analog specs, delay-line pairs. -/

namespace Sys2Proof.Machine

/-- Filter types, in the code order of 00_scope.md R17. -/
inductive FType where
  | peak | lowShelf | highShelf | lowPass | highPass | notch | bandPass | bandShelf | tiltShelf
  deriving DecidableEq, Repr

/-- Stereo modes, in the code order of 00_scope.md R17. Also the five detector channels and gain groups. -/
inductive Stereo where
  | st | left | right | mid | side
  deriving DecidableEq, Repr

/-- Filter structures, in the code order of 00_scope.md R17 and 44_structure_correction.md R290. -/
inductive Structure where
  | minphase | svf | parallel | matched | mixed | linear
  deriving DecidableEq, Repr

/-- The three channel groups (44_structure_correction.md R296). -/
inductive Group where
  | st | lr | ms
  deriving DecidableEq, Repr

/-- A channel slot of a group's pair (00_scope.md R17, 44_structure_correction.md R296). -/
inductive Slot where
  | s0 | s1
  deriving DecidableEq, Repr

/-- The two command ports (00_scope.md R6, R7). -/
inductive Port where
  | ctrl | audio
  deriving DecidableEq, Repr

/-- Register classes (10_state.md R29). -/
inductive RegClass where
  | s | g | b | n
  deriving DecidableEq, Repr

/-- Modes of a sub-block (45_controller.md R349). -/
inductive Mode where
  | normal | off | solo
  deriving DecidableEq, Repr

/-- The one event the block signals (60_exceptions.md R386), to HOST. -/
inductive Event where
  | latencyChanged (new : Nat)
  deriving DecidableEq, Repr

/-- FTYPE codes (00_scope.md R17). -/
def FType.code : FType → Nat
  | .peak => 0 | .lowShelf => 1 | .highShelf => 2 | .lowPass => 3 | .highPass => 4 | .notch => 5 | .bandPass => 6
  | .bandShelf => 7 | .tiltShelf => 8

/-- The FTYPE of a code; codes above 8 clamp to TILT_SHELF (30_encoding.md R97). -/
def FType.ofCode : Nat → FType
  | 0 => .peak | 1 => .lowShelf | 2 => .highShelf | 3 => .lowPass | 4 => .highPass | 5 => .notch | 6 => .bandPass
  | 7 => .bandShelf | _ => .tiltShelf

/-- STEREO codes (00_scope.md R17). -/
def Stereo.code : Stereo → Nat
  | .st => 0 | .left => 1 | .right => 2 | .mid => 3 | .side => 4

/-- The STEREO of a code; codes above 4 clamp to SIDE (30_encoding.md R97). -/
def Stereo.ofCode : Nat → Stereo
  | 0 => .st | 1 => .left | 2 => .right | 3 => .mid | _ => .side

/-- STRUCTURE codes (00_scope.md R17). -/
def Structure.code : Structure → Nat
  | .minphase => 0 | .svf => 1 | .parallel => 2 | .matched => 3 | .mixed => 4 | .linear => 5

/-- The STRUCTURE of a code; codes above 5 clamp to LINEAR (30_encoding.md R97). -/
def Structure.ofCode : Nat → Structure
  | 0 => .minphase | 1 => .svf | 2 => .parallel | 3 => .matched | 4 => .mixed | _ => .linear

/-- The structures that have a correction stage (44_structure_correction.md R295, R304). -/
def Structure.correcting : Structure → Bool
  | .matched | .mixed | .linear => true
  | _ => false

/-- The member mode of a group's slot (44_structure_correction.md R296). -/
def Group.memberMode : Group → Slot → Stereo
  | .st, _ => .st
  | .lr, .s0 => .left
  | .lr, .s1 => .right
  | .ms, .s0 => .mid
  | .ms, .s1 => .side

/-- One value per channel slot. -/
structure PerSlot (α : Type) where
  s0 : α
  s1 : α
  deriving DecidableEq, Repr

/-- The value of a slot. -/
def PerSlot.get {α : Type} (p : PerSlot α) : Slot → α
  | .s0 => p.s0
  | .s1 => p.s1

/-- The pair with one slot's value replaced. -/
def PerSlot.set {α : Type} (p : PerSlot α) (k : Slot) (v : α) : PerSlot α :=
  match k with
  | .s0 => { p with s0 := v }
  | .s1 => { p with s1 := v }

/-- One value per group. -/
structure PerGroup (α : Type) where
  st : α
  lr : α
  ms : α
  deriving DecidableEq, Repr

/-- The value of a group. -/
def PerGroup.get {α : Type} (p : PerGroup α) : Group → α
  | .st => p.st
  | .lr => p.lr
  | .ms => p.ms

/-- The record with one group's value replaced. -/
def PerGroup.set {α : Type} (p : PerGroup α) (k : Group) (v : α) : PerGroup α :=
  match k with
  | .st => { p with st := v }
  | .lr => { p with lr := v }
  | .ms => { p with ms := v }

/-- One value per stereo mode, the five L/R/M/S/stereo groups. -/
structure PerMode (α : Type) where
  st : α
  left : α
  right : α
  mid : α
  side : α
  deriving DecidableEq, Repr

/-- The value of a mode. -/
def PerMode.get {α : Type} (p : PerMode α) : Stereo → α
  | .st => p.st
  | .left => p.left
  | .right => p.right
  | .mid => p.mid
  | .side => p.side

/-- The record made of a function's five values. -/
def PerMode.of {α : Type} (f : Stereo → α) : PerMode α := ⟨f .st, f .left, f .right, f .mid, f .side⟩

/-- A digital section (10_state.md R30): `a0` is kept and always 1. -/
structure Section (V : Type := Rat) where
  b0 : V
  b1 : V
  b2 : V
  a0 : V
  a1 : V
  a2 : V
  deriving DecidableEq, Repr

/-- An S2 analog spec (41_coefficient_designer.md R184); `cB0` is the spec's B0, and so on. -/
structure SpecTwo (V : Type := Rat) where
  cB0 : V
  cB1 : V
  cB2 : V
  cA0 : V
  cA1 : V
  cA2 : V
  ws : V
  deriving DecidableEq, Repr

/-- An S1 analog spec (41_coefficient_designer.md R184). -/
structure SpecOne (V : Type := Rat) where
  cB0 : V
  cB1 : V
  cA0 : V
  cA1 : V
  ws : V
  deriving DecidableEq, Repr

/-- An analog section spec: one of the three forms of 41_coefficient_designer.md R184. -/
inductive Spec (V : Type := Rat) where
  | s2 (p : SpecTwo V)
  | s1 (p : SpecOne V)
  | s11 (p r : SpecOne V)
  deriving DecidableEq, Repr

/-- The state pair of one section: (s1, s2) of a direct-form section, (ic1eq, ic2eq) of a state-variable one
(10_state.md R31). -/
structure SecState (V : Type := Rat) where
  z1 : V
  z2 : V
  deriving DecidableEq, Repr

/-- The pair (0, 0). -/
def SecState.zero {V : Type} [Zero V] : SecState V := ⟨0, 0⟩

/-- One input frame, as reals (20_memory.md R63); between the front end and the sub-block the side pair is the sidechain
pair of the frame. -/
structure Frame (V : Type := Rat) where
  mL : V
  mR : V
  sL : V
  sR : V
  deriving DecidableEq, Repr

/-- The silent frame. -/
def Frame.zero {V : Type} [Zero V] : Frame V := ⟨0, 0, 0, 0⟩

/-- A command waiting on a port: the block takes commands from the merge of its two ports (20_memory.md R69). -/
structure PortCmd where
  port : Port
  word : CmdWord
  deriving DecidableEq, Repr

end Sys2Proof.Machine
end

