-- ==== Sys2Proof/Config.lean ====
section
/-! DEFINITION. The configuration: the constants the source fixes (00_scope.md R8), the arithmetic ARITH (R13) and the record
of the parameters the source leaves open (R9). The record is an argument of every operation that depends on it, over any
type `V` of values, so a statement may quantify over both. Where an operation is used without it, it is the one in scope,
else `Config.standard` (Machine/Arith.lean), which `exec` and `step` run with (log entries 1 to 3). -/

namespace Sys2Proof

open Machine (FType)

/-- ARITH beside `+ - * /`, comparison and the naturals (00_scope.md R13): the operations on a type `V` of values, of which
the rules assume only that each is a function of its operands. `+ - * /`, negation, the naturals, comparison, `min` and `max`
of `V` are those of its Lean operation classes, of which no law is asked either. `ofRat` is the value of a binary32 (R11). -/
structure Arith (V : Type) where
  sqrt : V → V
  exp : V → V
  ln : V → V
  log2 : V → V
  log10 : V → V
  /-- `a^b`. -/
  pow : V → V → V
  sin : V → V
  cos : V → V
  tan : V → V
  sinh : V → V
  asinh : V → V
  floor : V → Int
  pi : V
  ofRat : Rat → V

/-- The named parameters of 00_scope.md R9, ARITH among them. The last three groups are parameters by
93_implementation_defined.md U4, U5 and 10_state.md R37. -/
structure Config (V : Type) extends Arith V where
  /-- FREQ_MIN in Hz. -/
  freqMin : V
  /-- FREQ_MAX in Hz. -/
  freqMax : V
  /-- GAIN_MIN in dB. -/
  gainMin : V
  /-- GAIN_MAX in dB. -/
  gainMax : V
  /-- THRESH_MIN in dB. -/
  threshMin : V
  /-- THRESH_MAX in dB. -/
  threshMax : V
  /-- KNEE_MIN in dB, the floor that keeps a knee from being zero. -/
  kneeMin : V
  /-- KNEE_MAX in dB. -/
  kneeMax : V
  /-- ATTACK_MAX in ms. -/
  attackMax : V
  /-- RELEASE_MAX in ms. -/
  releaseMax : V
  /-- LA_MAX_MS. -/
  laMaxMs : V
  /-- TRIM_MIN in dB. -/
  trimMin : V
  /-- TRIM_MAX in dB. -/
  trimMax : V
  /-- RMS_MS_MAX. -/
  rmsMsMax : V
  /-- SUBBLOCK_SEC. -/
  subblockSec : V
  /-- W_MAX in rad/sample. -/
  wMax : V
  /-- MS_FLOOR; `Config.levelFloorDb` is its level in dB. -/
  msFloor : V
  /-- LEARN_MARGIN_DB. -/
  learnMarginDb : V
  /-- CORR_M_MATCHED in frames. -/
  corrMMatched : Nat
  /-- CORR_M_MIXED in frames. -/
  corrMMixed : Nat
  /-- CORR_M_LINEAR in frames. -/
  corrMLinear : Nat
  /-- CORR_GAIN_MAX. -/
  corrGainMax : V
  /-- CORR_EPS. -/
  corrEps : V
  /-- F_LOW_REF in Hz, the first argument of `soloMapFrom`. -/
  fLowRef : V
  /-- F_HIGH_REF in Hz, the second argument of `soloMapFrom`. -/
  fHighRef : V
  /-- AUDIBLE_LO in Hz, the first argument of `sgcEstFrom`. -/
  audibleLo : V
  /-- AUDIBLE_HI in Hz, the second argument of `sgcEstFrom`. -/
  audibleHi : V
  /-- Q_RESCALE(n, Q, k); `Config.QRescaleSound` says what R194 asks of it. -/
  qRescale : Nat → V → Nat → V
  /-- SGC_EST(type, f, gain, Q) in dB, for a given AUDIBLE_LO and AUDIBLE_HI; `Config.sgcEst` is it at the fields. -/
  sgcEstFrom : V → V → FType → V → V → V → V
  /-- SOLOMAP(type, f, Q), centre and Q, for a given F_LOW_REF and F_HIGH_REF (U4); `Config.soloMap` is it at the fields. -/
  soloMapFrom : V → V → FType → V → V → V × V
  /-- HIST_DECAY_FAST, which the source gives as approximate (R8, U5). -/
  histDecayFast : V
  /-- HIST_DECAY_SLOW, which the source gives as approximate (R8, U5). -/
  histDecaySlow : V
  /-- How far the length H of a correction history exceeds 2*M_max + 1, the least 10_state.md R37 allows. -/
  corrHistSpare : Nat

namespace Config

/-! The constants of R8. -/

/-- NUM_BANDS. -/
abbrev numBands : Nat := 16
/-- MAX_SECTIONS. -/
def maxSections : Nat := 8
/-- HIST_BINS. -/
def histBins : Nat := 80

/-- The length H of a correction history (10_state.md R37). -/
def corrHistLen {V : Type} (C : Config V) : Nat := 2 * max (max C.corrMMatched C.corrMMixed) C.corrMLinear + 1 + C.corrHistSpare

variable {V : Type} [One V] [NatCast V] [Div V]

/-- HIST_MAX, the upper bound of the histogram's axis in dB. -/
def histMax : V := 80
/-- Q_MIN, exactly 0.025 (30_encoding.md R95). -/
def qMin : V := 1 / 40
/-- Q_MAX. -/
def qMax : V := 25

/-- What 41_coefficient_designer.md R194 asks of every instance of Q_RESCALE. -/
def QRescaleSound [Zero V] [LT V] (C : Config V) : Prop :=
  (∀ n q k, 0 < C.qRescale n q k) ∧ ∀ q, C.qRescale 2 q 0 = 1

end Config

end Sys2Proof
end

