-- ==== Sys2Proof/Machine/Arith.lean ====
section
/-! DEFINITION. Arithmetic. First the elementary functions of the rational instance of ARITH (00_scope.md R13), with answers
on a grid of 2^-96 (log entry 1); then what every ARITH has in common: clamp, rounding, decibels, complex values; then the
defaults of 00_scope.md R9 over any ARITH, and `Config.standard`. -/

namespace Sys2Proof.Machine.RatArith

/-- Fraction bits of an elementary function's answer. -/
def outBits : Nat := 96

/-- Fraction bits the elementary functions work with. -/
def workBits : Nat := 160

/-- 1 in working form. -/
def oneW : Int := 2 ^ workBits

/-- pi in working form, rounded to nearest. -/
def piW : Int := 4591442807048218921384805199743311128454155024418

/-- ln 2 in working form, rounded to nearest. -/
def lnTwoW : Int := 1013035739299659071135698605846798551586536899366

/-- The rational nearest to a working-form number on the 2^-96 grid. -/
def ofWork (n : Int) : Rat :=
  mkRat ((n + 2 ^ (workBits - outBits - 1)) / 2 ^ (workBits - outBits)) (2 ^ outBits)

/-- A rational in working form, rounded down. -/
def toWork (x : Rat) : Int := x.num * oneW / x.den

/-- Product in working form. -/
def mulW (a b : Int) : Int := a * b / oneW

/-- pi (00_scope.md R13) on the 2^-96 grid. -/
def pi : Rat := ofWork piW

/-- The binary digits of an integer square root, from the given one down. -/
def isqrtBits (n : Nat) : Nat → Nat → Nat
  | 0, r => r
  | k + 1, r => if (r + 2 ^ k) * (r + 2 ^ k) ≤ n then isqrtBits n k (r + 2 ^ k) else isqrtBits n k r

/-- The integer square root, rounded down. -/
def isqrt (n : Nat) : Nat := isqrtBits n (n.log2 / 2 + 1) 0

/-- `sqrt` (R13) for x >= 0, rounded down to the grid; 0 for a negative operand, which no rule forms. -/
def sqrt (x : Rat) : Rat := mkRat (isqrt (x.num.toNat * 2 ^ (2 * outBits) / x.den)) (2 ^ outBits)

/-- `term + term*r/k + term*r^2/(k*(k+1)) + ...`, the exponential series. -/
def expSum : Nat → Int → Int → Nat → Int
  | 0, _, term, _ => term
  | fuel + 1, r, term, k => term + expSum fuel r (mulW term r / k) (k + 1)

/-- The exponential in working form. -/
def expW (x : Int) : Int :=
  let k := x / lnTwoW
  let s := expSum 40 (x - k * lnTwoW) oneW 1
  if 0 ≤ k then s * 2 ^ k.toNat else if k < -200 then 0 else s / 2 ^ (-k).toNat

/-- `p/j + p*z2/(j+2) + p*z2^2/(j+4) + ...`, the series of the inverse hyperbolic tangent. -/
def atanhSum : Nat → Int → Int → Nat → Int
  | 0, _, p, j => p / j
  | fuel + 1, z2, p, j => p / j + atanhSum fuel z2 (mulW p z2) (j + 2)

/-- The natural logarithm of a positive rational in working form; 0 for other operands, which no rule forms. -/
def lnW (x : Rat) : Int :=
  if 0 < x then
    let k : Int := (x.num.toNat.log2 : Int) - x.den.log2
    let n : Int := x.num * 2 ^ (-k).toNat
    let d : Int := x.den * 2 ^ k.toNat
    let z := (n - d) * oneW / (n + d)
    2 * atanhSum 56 (mulW z z) z 1 + k * lnTwoW
  else 0

/-- `exp` (R13). -/
def exp (x : Rat) : Rat := ofWork (expW (toWork x))

/-- `ln` (R13). -/
def ln (x : Rat) : Rat := ofWork (lnW x)

/-- `log2` (R13). -/
def log2 (x : Rat) : Rat := ofWork (lnW x * oneW / lnTwoW)

/-- `log10` (R13). -/
def log10 (x : Rat) : Rat := ofWork (lnW x * oneW / lnW 10)

/-- `pow`, written `a^b` (R13), for a > 0. -/
def pow (a b : Rat) : Rat := ofWork (expW (lnW a * b.num / b.den))

/-- `1 - t2/(1*2) + ...`, the cosine series, `t2` the square of the angle. -/
def cosSum : Nat → Int → Int → Nat → Int
  | 0, _, term, _ => term
  | fuel + 1, t2, term, k => term + cosSum fuel t2 (-(mulW term t2) / (k * (k + 1))) (k + 2)

/-- cos(pi * r) in working form for r in [0, 1/2]. -/
def cosQuarterW (r : Rat) : Int :=
  let th := r.num * piW / r.den
  cosSum 26 (mulW th th) oneW 1

/-- cos(pi * r) in working form; the fold into the first quadrant is exact, so that the symmetries of the cosine hold
exactly of the answers. -/
def cosPiW (r : Rat) : Int :=
  let a := r - 2 * (r / 2).floor
  let b := if 1 < a then 2 - a else a
  if b ≤ 1 / 2 then cosQuarterW b else -(cosQuarterW (1 - b))

/-- A working-form cosine or sine on the 2^-96 grid, rounded to nearest away from zero, so that rounding is odd. -/
def ofWorkOdd (n : Int) : Rat := if 0 ≤ n then ofWork n else -(ofWork (-n))

/-- `cos` (R13). -/
def cos (x : Rat) : Rat := ofWorkOdd (cosPiW (x / pi))

/-- `sin` (R13). -/
def sin (x : Rat) : Rat := ofWorkOdd (cosPiW (1 / 2 - x / pi))

/-- `tan` (R13). -/
def tan (x : Rat) : Rat := ofWork (cosPiW (1 / 2 - x / pi) * oneW / cosPiW (x / pi))

/-- `sinh` (R13). -/
def sinh (x : Rat) : Rat := (exp x - exp (-x)) / 2

/-- `asinh` (R13): ln(x + sqrt(x^2 + 1)). -/
def asinh (x : Rat) : Rat := ln (x + sqrt (x * x + 1))

end Sys2Proof.Machine.RatArith

namespace Sys2Proof

open Machine (FType)

/-- The ARITH that `exec` runs with (log entry 1): exact `+ - * /` and comparison on rationals, elementary functions on a grid
of 2^-96. -/
def Arith.rational : Arith Rat where
  sqrt := Machine.RatArith.sqrt
  exp := Machine.RatArith.exp
  ln := Machine.RatArith.ln
  log2 := Machine.RatArith.log2
  log10 := Machine.RatArith.log10
  pow := Machine.RatArith.pow
  sin := Machine.RatArith.sin
  cos := Machine.RatArith.cos
  tan := Machine.RatArith.tan
  sinh := Machine.RatArith.sinh
  asinh := Machine.RatArith.asinh
  floor := Rat.floor
  pi := Machine.RatArith.pi
  ofRat := fun v => v

variable {V : Type} [Zero V] [One V] [NatCast V] [Add V] [Sub V] [Neg V] [Mul V] [Div V]
  [LT V] [LE V] [BEq V] [Min V] [Max V] [DecidableLT V] [DecidableLE V]

/-- `clamp(v, lo, hi)` (00_scope.md R11). -/
def Arith.clamp (v lo hi : V) : V := if v < lo then lo else if hi < v then hi else v

/-! ### The defaults of R9 -/

/-- BW(Q) in octaves (41_coefficient_designer.md R200). -/
def Arith.bandwidth (A : Arith V) (q : V) : V := 2 / A.ln 2 * A.asinh (1 / (2 * q))

/-- AO, the audible band in octaves (45_controller.md R355). -/
def Arith.audibleOct (A : Arith V) (lo hi : V) : V := A.log2 (hi / lo)

/-- lf, the fraction of the audible band below f (45_controller.md R355). -/
def Arith.lowFraction (A : Arith V) (lo hi f : V) : V := A.log2 (clamp f lo hi / lo) / A.audibleOct lo hi

/-- The default instance of SGC_EST in dB (45_controller.md R355), with AUDIBLE_LO and AUDIBLE_HI given. -/
def Arith.sgcDefault (A : Arith V) (lo hi : V) (type : FType) (f gdb q : V) : V :=
  match type with
  | .peak | .bandShelf => gdb * min (A.bandwidth q) (A.audibleOct lo hi) / A.audibleOct lo hi
  | .lowShelf => gdb * A.lowFraction lo hi f
  | .highShelf => gdb * (1 - A.lowFraction lo hi f)
  | .tiltShelf => gdb * ((1 - A.lowFraction lo hi f) - A.lowFraction lo hi f) / 2
  | .lowPass | .highPass | .notch | .bandPass => 0

/-- The Q of a solo bandwidth in octaves (45_controller.md R359). -/
def Arith.soloQ (A : Arith V) (bw : V) : V :=
  if bw ≤ 0 then Config.qMax else clamp (1 / (2 * A.sinh (A.ln 2 / 2 * bw))) Config.qMin Config.qMax

/-- The default instance of SOLOMAP (45_controller.md R359), with F_LOW_REF and F_HIGH_REF given. -/
def Arith.soloDefault (A : Arith V) (low high : V) (type : FType) (f q : V) : V × V :=
  match type with
  | .peak | .notch | .bandPass | .bandShelf => (f, q)
  | .highPass | .lowShelf => (A.sqrt (f * low), A.soloQ (A.log2 (f / low)))
  | .lowPass | .highShelf | .tiltShelf => (A.sqrt (f * high), A.soloQ (A.log2 (high / f)))

/-- The configuration of the default column of R9 over a given ARITH. -/
def Config.ofArith (A : Arith V) : Config V where
  toArith := A
  freqMin := 10
  freqMax := 20000
  gainMin := -30
  gainMax := 30
  threshMin := -80
  threshMax := 0
  kneeMin := 1 / 100
  kneeMax := 60
  attackMax := 1000
  releaseMax := 5000
  laMaxMs := 20
  trimMin := -30
  trimMax := 30
  rmsMsMax := 1000
  subblockSec := 1 / 1000
  wMax := 99 / 100 * A.pi
  msFloor := 1 / 1000000000000
  learnMarginDb := 3
  corrMMatched := 512
  corrMMixed := 256
  corrMLinear := 2048
  corrGainMax := 16
  corrEps := 1 / 1000000000000
  fLowRef := 10
  fHighRef := 20000
  audibleLo := 20
  audibleHi := 20000
  qRescale := fun _ _ _ => 1
  sgcEstFrom := A.sgcDefault
  soloMapFrom := A.soloDefault
  histDecayFast := 9995 / 10000
  histDecaySlow := 99999 / 100000
  corrHistSpare := 0

/-- The configuration `exec` and `step` run with: the defaults of R9 over the rational ARITH (log entries 1 to 3). -/
def Config.standard : Config Rat := .ofArith .rational

/-! ### What follows from the parameters -/

/-- LEVEL_FLOOR_DB, the level of MS_FLOOR in dB (00_scope.md R9, 43_detector_histogram.md R256). -/
def Config.levelFloorDb (C : Config V) : V := 10 * C.log10 C.msFloor

/-- SGC_EST(type, f, gain, Q) in dB (00_scope.md R9), over the audible band of the configuration. -/
def Config.sgcEst (C : Config V) : FType → V → V → V → V := C.sgcEstFrom C.audibleLo C.audibleHi

/-- SOLOMAP(type, f, Q) (45_controller.md R359), with the references of the configuration. -/
def Config.soloMap (C : Config V) : FType → V → V → V × V := C.soloMapFrom C.fLowRef C.fHighRef

/-! ### What every ARITH has in common -/

/-- `round(x)` for x >= 0 (00_scope.md R12): floor(x + 1/2). -/
def Arith.roundNat (x : V)
    (C : Config V := by first | assumption | exact Sys2Proof.Config.standard) : Nat := (C.floor (x + 1 / 2)).toNat

/-- `lin(d) = 10^(d/20)` (00_scope.md R14). -/
def Arith.lin (d : V) (C : Config V := by first | assumption | exact Sys2Proof.Config.standard) : V := C.pow 10 (d / 20)

/-- A complex value of the frequency responses (41_coefficient_designer.md R207, R208). -/
structure Arith.Cpx (V : Type := Rat) where
  re : V
  im : V
  deriving DecidableEq, Repr

/-- Complex 1. -/
def Arith.Cpx.one : Cpx V := ⟨1, 0⟩
/-- A real as a complex number. -/
def Arith.Cpx.ofReal (x : V) : Cpx V := ⟨x, 0⟩
/-- Complex sum. -/
def Arith.Cpx.add (a b : Cpx V) : Cpx V := ⟨a.re + b.re, a.im + b.im⟩
/-- Complex product. -/
def Arith.Cpx.mul (a b : Cpx V) : Cpx V := ⟨a.re * b.re - a.im * b.im, a.re * b.im + a.im * b.re⟩
/-- A complex number times a real. -/
def Arith.Cpx.scale (k : V) (a : Cpx V) : Cpx V := ⟨k * a.re, k * a.im⟩
/-- |a|^2. -/
def Arith.Cpx.normSq (a : Cpx V) : V := a.re * a.re + a.im * a.im
/-- Complex quotient. -/
def Arith.Cpx.div (a b : Cpx V) : Cpx V :=
  ⟨(a.re * b.re + a.im * b.im) / b.normSq, (a.im * b.re - a.re * b.im) / b.normSq⟩
/-- |a|. -/
def Arith.Cpx.abs (a : Cpx V)
    (C : Config V := by first | assumption | exact Sys2Proof.Config.standard) : V := C.sqrt a.normSq
/-- exp(j * x). -/
def Arith.Cpx.cis (x : V)
    (C : Config V := by first | assumption | exact Sys2Proof.Config.standard) : Cpx V := ⟨C.cos x, C.sin x⟩

end Sys2Proof
end

