-- ==== Sys2Proof/Machine/Designer.lean ====
section
/-! DEFINITION. The coefficient designer (41_coefficient_designer.md): analog specs, the bilinear map, the frequency
responses. Every function here is pure (R180). -/

namespace Sys2Proof.Machine

open Arith

variable {V : Type} [Zero V] [One V] [NatCast V] [Add V] [Sub V] [Neg V] [Mul V] [Div V]
  [LT V] [LE V] [BEq V] [Min V] [Max V] [DecidableLT V] [DecidableLE V]

/-- EFFORDER (R182). -/
def effOrder (type : FType) (order : Nat) : Nat :=
  match type with
  | .peak => 2
  | .notch | .bandPass | .bandShelf => if order = 1 then 2 else order
  | _ => order

/-- NSEC(type, order) (R205). -/
def nsec (type : FType) (order : Nat) : Nat :=
  if effOrder type order = 1 then 1 else effOrder type order / 2

/-- K(w), the prewarped corner, the corner clamped to W_MAX (R183). -/
def prewarp (w : V)
    (C : Config V := by first | assumption | exact Sys2Proof.Config.standard) : V := C.tan (min w C.wMax / 2)

/-- a0 normalisation (R188). -/
def normalise (b0 b1 b2 a0 a1 a2 : V) : Section V := ⟨b0 / a0, b1 / a0, b2 / a0, 1, a1 / a0, a2 / a0⟩

/-- BLT of an S2 spec with K given (R185, R188). -/
def bltTwoAt (K : V) (p : SpecTwo V) : Section V :=
  normalise (p.cB0 + p.cB1 * K + p.cB2 * (K * K)) (2 * (p.cB2 * (K * K) - p.cB0)) (p.cB0 - p.cB1 * K + p.cB2 * (K * K))
    (p.cA0 + p.cA1 * K + p.cA2 * (K * K)) (2 * (p.cA2 * (K * K) - p.cA0)) (p.cA0 - p.cA1 * K + p.cA2 * (K * K))

/-- BLT of an S1 spec with K given (R186, R188). -/
def bltOneAt (K : V) (p : SpecOne V) : Section V :=
  normalise (p.cB0 + p.cB1 * K) (p.cB1 * K - p.cB0) 0 (p.cA0 + p.cA1 * K) (p.cA1 * K - p.cA0) 0

/-- BLT of an S2 spec (R185). -/
def bltTwo (p : SpecTwo V)
    (C : Config V := by first | assumption | exact Sys2Proof.Config.standard) : Section V := bltTwoAt (prewarp p.ws) p

/-- BLT of an S1 spec (R186). -/
def bltOne (p : SpecOne V)
    (C : Config V := by first | assumption | exact Sys2Proof.Config.standard) : Section V := bltOneAt (prewarp p.ws) p

/-- The product of two normalised first-order sections (R187). -/
def sectionProduct (p r : Section V) : Section V :=
  ⟨p.b0 * r.b0, p.b0 * r.b1 + p.b1 * r.b0, p.b1 * r.b1, 1, p.a1 + r.a1, p.a1 * r.a1⟩

/-- BLT (R185 to R188). -/
def blt (x : Spec V) (C : Config V := by first | assumption | exact Sys2Proof.Config.standard) : Section V :=
  match x with
  | .s2 p => bltTwo p
  | .s1 p => bltOne p
  | .s11 p r => sectionProduct (bltOne p) (bltOne r)

/-- LP1(w) (R189). -/
def lp1 (w : V) : SpecOne V := ⟨0, 1, 1, 1, w⟩

/-- HP1(w) (R189). -/
def hp1 (w : V) : SpecOne V := ⟨1, 0, 1, 1, w⟩

/-- SHELF1 (R190): the low shelf, the high shelf, and the tilt shelf for every other type. -/
def shelf1 (type : FType) (g1 w : V)
    (C : Config V := by first | assumption | exact Sys2Proof.Config.standard) : SpecOne V :=
  let A := C.sqrt g1
  match type with
  | .lowShelf => ⟨A, A * A, A, 1, w⟩
  | .highShelf => ⟨A * A, A, 1, A, w⟩
  | _ => ⟨A, 1, 1, A, w⟩

/-- PEAK2 (R191). -/
def peak2 (gdb q w : V) (C : Config V := by first | assumption | exact Sys2Proof.Config.standard) : SpecTwo V :=
  let A := C.pow 10 (gdb / 40)
  ⟨1, A / q, 1, 1, 1 / (A * q), 1, w⟩

/-- BQ(n, k) (R192). -/
def butterQ (n k : Nat) (C : Config V := by first | assumption | exact Sys2Proof.Config.standard) : V :=
  1 / (2 * C.cos (C.pi * (2 * (k : V) + 1) / (2 * (n : V))))

/-- q_k (R193). -/
def sectionQ (n : Nat) (q : V) (k : Nat) (C : Config V := by first | assumption | exact Sys2Proof.Config.standard) : V :=
  butterQ n k * C.pow (C.sqrt 2 * q) (1 / ((n / 2 : Nat) : V)) * C.qRescale n q k

/-- SHELF2 (R197 to R199): the low shelf, the high shelf, and the tilt shelf for every other type. -/
def shelf2 (type : FType) (gs q w : V)
    (C : Config V := by first | assumption | exact Sys2Proof.Config.standard) : SpecTwo V :=
  let As := C.sqrt gs
  let rA := C.sqrt As
  match type with
  | .lowShelf => ⟨As, As * rA / q, As * As, As, rA / q, 1, w⟩
  | .highShelf => ⟨As * As, As * rA / q, As, 1, rA / q, As, w⟩
  | _ => ⟨As, rA / q, 1, 1, rA / q, As, w⟩

/-- The second-order sections of LSG(m, w, g) (R203), without the first-order one of an odd m. -/
def lsgPairs (m : Nat) (w g : V)
    (C : Config V := by first | assumption | exact Sys2Proof.Config.standard) : List (SpecTwo V) :=
  if m % 2 = 0 then (List.range (m / 2)).map fun k => shelf2 .lowShelf (C.pow g (2 / (m : V))) (butterQ m k) w
  else
    (List.range ((m - 1) / 2)).map fun k =>
      shelf2 .lowShelf (C.pow g (2 / (m : V))) (1 / (2 * C.cos (C.pi * ((k + 1 : Nat) : V) / (m : V)))) w

/-- The first-order section that ends LSG(m, w, g) for an odd m (R203). -/
def lsgLast (m : Nat) (w g : V)
    (C : Config V := by first | assumption | exact Sys2Proof.Config.standard) : SpecOne V :=
  shelf1 .lowShelf (C.pow g (1 / (m : V))) w

/-- BAND_SHELF, m = n/2 (R204), between the band edges of R200. -/
def bandShelf (m : Nat) (w0 g q : V)
    (C : Config V := by first | assumption | exact Sys2Proof.Config.standard) : List (Spec V) :=
  let bw := C.bandwidth q
  let wLo := w0 * C.pow 2 (-bw / 2)
  let wHi := w0 * C.pow 2 (bw / 2)
  (lsgPairs m wLo (1 / g) ++ lsgPairs m wHi g).map .s2 ++
    (if m % 2 = 0 then [] else [.s11 (lsgLast m wLo (1 / g)) (lsgLast m wHi g)])

/-- The per-section Q of a BAND_PASS of N sections (R201). -/
def bandPassQ (N : Nat) (q : V)
    (C : Config V := by first | assumption | exact Sys2Proof.Config.standard) : V := q * C.sqrt (C.pow 2 (1 / (N : V)) - 1)

/-- The per-section Q of a NOTCH of N sections (R202). -/
def notchQ (N : Nat) (q : V)
    (C : Config V := by first | assumption | exact Sys2Proof.Config.standard) : V := q / C.sqrt (C.pow 2 (1 / (N : V)) - 1)

/-- A second-order low-pass section (R195). -/
def lp2 (q w : V) : SpecTwo V := ⟨0, 0, 1, 1, 1 / q, 1, w⟩

/-- A second-order high-pass section (R196). -/
def hp2 (q w : V) : SpecTwo V := ⟨1, 0, 0, 1, 1 / q, 1, w⟩

/-- A second-order band-pass section (R201). -/
def bp2 (q w : V) : SpecTwo V := ⟨0, 1 / q, 0, 1, 1 / q, 1, w⟩

/-- A second-order notch section (R202). -/
def notch2 (q w : V) : SpecTwo V := ⟨1, 0, 1, 1, 1 / q, 1, w⟩

/-- The specs of an effective order 1 (R181, R189, R190). -/
def specsFirst (type : FType) (g w0 : V)
    (C : Config V := by first | assumption | exact Sys2Proof.Config.standard) : List (Spec V) :=
  match type with
  | .lowPass => [.s1 (lp1 w0)]
  | .highPass => [.s1 (hp1 w0)]
  | _ => [.s1 (shelf1 type g w0)]

/-- The specs of an effective order n >= 2 (R181, R191 to R204). -/
def specsHigher (type : FType) (n : Nat) (gdb q w0 : V)
    (C : Config V := by first | assumption | exact Sys2Proof.Config.standard) : List (Spec V) :=
  let N := n / 2
  let g := C.pow 10 (gdb / 20)
  let ks := List.range N
  match type with
  | .peak => [.s2 (peak2 gdb q w0)]
  | .lowPass => ks.map fun k => .s2 (lp2 (sectionQ n q k) w0)
  | .highPass => ks.map fun k => .s2 (hp2 (sectionQ n q k) w0)
  | .lowShelf | .highShelf | .tiltShelf => ks.map fun k => .s2 (shelf2 type (C.pow g (1 / (N : V))) (sectionQ n q k) w0)
  | .bandPass => ks.map fun _ => .s2 (bp2 (bandPassQ N q) w0)
  | .notch => ks.map fun _ => .s2 (notch2 (notchQ N q) w0)
  | .bandShelf => bandShelf N w0 g q

/-- SPECS (R181); w0 is not clamped (R183). -/
def specs (type : FType) (f gdb q : V) (order fs : Nat)
    (C : Config V := by first | assumption | exact Sys2Proof.Config.standard) : List (Spec V) :=
  let w0 := 2 * C.pi * f / (fs : V)
  if effOrder type order = 1 then specsFirst type (C.pow 10 (gdb / 20)) w0
  else specsHigher type (effOrder type order) gdb q w0

/-- DESIGN = map BLT (SPECS(...)) (R180). -/
def design (type : FType) (f gdb q : V) (order fs : Nat)
    (C : Config V := by first | assumption | exact Sys2Proof.Config.standard) : List (Section V) :=
  (specs type f gdb q order fs).map fun p => blt p

/-- DESIGN(BAND_PASS, f, 0, q, 2, fs)[0], the designer's other use (R214): one band-pass section. -/
def bandPassSection (f q : V) (fs : Nat)
    (C : Config V := by first | assumption | exact Sys2Proof.Config.standard) : Section V :=
  bltTwo (bp2 (bandPassQ 1 q) (2 * C.pi * f / (fs : V)))

/-- IDEAL of an S2 spec (R207). -/
def idealTwo (p : SpecTwo V) (w : V) : Cpx V :=
  let s : Cpx V := ⟨0, w / p.ws⟩
  (((s.mul s).scale p.cB0).add ((s.scale p.cB1).add (.ofReal p.cB2))).div
    (((s.mul s).scale p.cA0).add ((s.scale p.cA1).add (.ofReal p.cA2)))

/-- IDEAL of an S1 spec (R207). -/
def idealOne (p : SpecOne V) (w : V) : Cpx V :=
  let s : Cpx V := ⟨0, w / p.ws⟩
  ((s.scale p.cB0).add (.ofReal p.cB1)).div ((s.scale p.cA0).add (.ofReal p.cA1))

/-- IDEAL(spec, w) (R207). -/
def ideal : Spec V → V → Cpx V
  | .s2 p, w => idealTwo p w
  | .s1 p, w => idealOne p w
  | .s11 p r, w => (idealOne p w).mul (idealOne r w)

/-- DIG(sec, w) (R208). -/
def dig (c : Section V) (w : V) (C : Config V := by first | assumption | exact Sys2Proof.Config.standard) : Cpx V :=
  let z1 := Cpx.cis (-w)
  let z2 := z1.mul z1
  (((Cpx.ofReal c.b0).add (z1.scale c.b1)).add (z2.scale c.b2)).div
    ((Cpx.one.add (z1.scale c.a1)).add (z2.scale c.a2))

/-- MAG_DB(secs, w) (R213); `none` stands for minus infinity, where the response is 0. It is what a reader of the display
registers draws; no rule of the audio path reads it. -/
def magDb (secs : List (Section V)) (w : V)
    (C : Config V := by first | assumption | exact Sys2Proof.Config.standard) : Option V :=
  let m := (secs.foldl (fun acc c => acc.mul (dig c w)) Cpx.one).abs
  if m == 0 then none else some (20 * C.log10 m)

end Sys2Proof.Machine
end

