-- ==== Sys2Proof/Syntax.lean ====
section
/-! DEFINITION. The command set: one constructor for each of the 86 rows of spec/opcode_table.json (30_encoding.md R104).
Band, frame-count, block-size and sample-rate fields are counts; a data field is the 32-bit word as it stands. -/

namespace Sys2Proof

/-- A command (30_encoding.md R89). -/
inductive Instr where
  /-- NOP (R106). -/
  | nop
  /-- RESET (R107). -/
  | reset
  /-- PREPARE (R330). -/
  | prepare (maxblock fs : Nat)
  /-- PROCESS (R331). -/
  | process (n : Nat)
  /-- WRB.ACTIVE (R113). -/
  | wrbActive (band : Nat) (data : DataWord)
  /-- WRB.BYPASS (R114). -/
  | wrbBypass (band : Nat) (data : DataWord)
  /-- WRB.FTYPE (R115). -/
  | wrbFtype (band : Nat) (data : DataWord)
  /-- WRB.ORDER (R116). -/
  | wrbOrder (band : Nat) (data : DataWord)
  /-- WRB.FREQ (R117). -/
  | wrbFreq (band : Nat) (data : DataWord)
  /-- WRB.GAIN (R118). -/
  | wrbGain (band : Nat) (data : DataWord)
  /-- WRB.Q (R119). -/
  | wrbQ (band : Nat) (data : DataWord)
  /-- WRB.STEREO (R120). -/
  | wrbStereo (band : Nat) (data : DataWord)
  /-- WRB.DYN_ON (R121). -/
  | wrbDynOn (band : Nat) (data : DataWord)
  /-- WRB.TGAIN (R122). -/
  | wrbTgain (band : Nat) (data : DataWord)
  /-- WRB.TQ (R123). -/
  | wrbTq (band : Nat) (data : DataWord)
  /-- WRB.THRESH (R124). -/
  | wrbThresh (band : Nat) (data : DataWord)
  /-- WRB.KNEE (R125). -/
  | wrbKnee (band : Nat) (data : DataWord)
  /-- WRB.ATTACK (R126). -/
  | wrbAttack (band : Nat) (data : DataWord)
  /-- WRB.RELEASE (R127). -/
  | wrbRelease (band : Nat) (data : DataWord)
  /-- WRB.REL_THRESH (R128). -/
  | wrbRelThresh (band : Nat) (data : DataWord)
  /-- WRB.SIDE_FREQ (R129). -/
  | wrbSideFreq (band : Nat) (data : DataWord)
  /-- WRB.SIDE_Q (R130). -/
  | wrbSideQ (band : Nat) (data : DataWord)
  /-- WRB.SIDE_SWAP (R131). -/
  | wrbSideSwap (band : Nat) (data : DataWord)
  /-- WRB.LEARN (R132). -/
  | wrbLearn (band : Nat) (data : DataWord)
  /-- RDB.ACTIVE (R113). -/
  | rdbActive (band : Nat)
  /-- RDB.BYPASS (R114). -/
  | rdbBypass (band : Nat)
  /-- RDB.FTYPE (R115). -/
  | rdbFtype (band : Nat)
  /-- RDB.ORDER (R116). -/
  | rdbOrder (band : Nat)
  /-- RDB.FREQ (R117). -/
  | rdbFreq (band : Nat)
  /-- RDB.GAIN (R118). -/
  | rdbGain (band : Nat)
  /-- RDB.Q (R119). -/
  | rdbQ (band : Nat)
  /-- RDB.STEREO (R120). -/
  | rdbStereo (band : Nat)
  /-- RDB.DYN_ON (R121). -/
  | rdbDynOn (band : Nat)
  /-- RDB.TGAIN (R122). -/
  | rdbTgain (band : Nat)
  /-- RDB.TQ (R123). -/
  | rdbTq (band : Nat)
  /-- RDB.THRESH (R124). -/
  | rdbThresh (band : Nat)
  /-- RDB.KNEE (R125). -/
  | rdbKnee (band : Nat)
  /-- RDB.ATTACK (R126). -/
  | rdbAttack (band : Nat)
  /-- RDB.RELEASE (R127). -/
  | rdbRelease (band : Nat)
  /-- RDB.REL_THRESH (R128). -/
  | rdbRelThresh (band : Nat)
  /-- RDB.SIDE_FREQ (R129). -/
  | rdbSideFreq (band : Nat)
  /-- RDB.SIDE_Q (R130). -/
  | rdbSideQ (band : Nat)
  /-- RDB.SIDE_SWAP (R131). -/
  | rdbSideSwap (band : Nat)
  /-- RDB.LEARN (R132). -/
  | rdbLearn (band : Nat)
  /-- RDB.CUR_T (R133). -/
  | rdbCurT (band : Nat)
  /-- RDB.CUR_GAIN (R134). -/
  | rdbCurGain (band : Nat)
  /-- RDB.CUR_Q (R135). -/
  | rdbCurQ (band : Nat)
  /-- RDB.CUR_LEVEL (R136). -/
  | rdbCurLevel (band : Nat)
  /-- RDB.HIST_P05 (R137). -/
  | rdbHistP05 (band : Nat)
  /-- RDB.HIST_P50 (R138). -/
  | rdbHistP50 (band : Nat)
  /-- RDB.HIST_P95 (R139). -/
  | rdbHistP95 (band : Nat)
  /-- RDB.NSEC (R140). -/
  | rdbNsec (band : Nat)
  /-- WRG.STRUCTURE (R141). -/
  | wrgStructure (data : DataWord)
  /-- WRG.ZERO_LAT (R142). -/
  | wrgZeroLat (data : DataWord)
  /-- WRG.LOOKAHEAD (R143). -/
  | wrgLookahead (data : DataWord)
  /-- WRG.SC_PRESENT (R144). -/
  | wrgScPresent (data : DataWord)
  /-- WRG.SOLO (R145). -/
  | wrgSolo (data : DataWord)
  /-- WRG.TRIM (R146). -/
  | wrgTrim (data : DataWord)
  /-- WRG.EFFECT_ON (R147). -/
  | wrgEffectOn (data : DataWord)
  /-- WRG.HQ (R148). -/
  | wrgHq (data : DataWord)
  /-- WRG.PHASE_FLIP (R149). -/
  | wrgPhaseFlip (data : DataWord)
  /-- WRG.SGC_ON (R150). -/
  | wrgSgcOn (data : DataWord)
  /-- WRG.MEASURE (R151). -/
  | wrgMeasure (data : DataWord)
  /-- WRG.RMS_MS (R152). -/
  | wrgRmsMs (data : DataWord)
  /-- WRG.DECAY_SEL (R153). -/
  | wrgDecaySel (data : DataWord)
  /-- RDG.STRUCTURE (R141). -/
  | rdgStructure
  /-- RDG.ZERO_LAT (R142). -/
  | rdgZeroLat
  /-- RDG.LOOKAHEAD (R143). -/
  | rdgLookahead
  /-- RDG.SC_PRESENT (R144). -/
  | rdgScPresent
  /-- RDG.SOLO (R145). -/
  | rdgSolo
  /-- RDG.TRIM (R146). -/
  | rdgTrim
  /-- RDG.EFFECT_ON (R147). -/
  | rdgEffectOn
  /-- RDG.HQ (R148). -/
  | rdgHq
  /-- RDG.PHASE_FLIP (R149). -/
  | rdgPhaseFlip
  /-- RDG.SGC_ON (R150). -/
  | rdgSgcOn
  /-- RDG.MEASURE (R151). -/
  | rdgMeasure
  /-- RDG.RMS_MS (R152). -/
  | rdgRmsMs
  /-- RDG.DECAY_SEL (R153). -/
  | rdgDecaySel
  /-- RDG.LATENCY (R154). -/
  | rdgLatency
  /-- RDG.SRATE (R155). -/
  | rdgSrate
  /-- RDG.MAXBLOCK (R156). -/
  | rdgMaxblock
  /-- RDG.SUBLEN (R157). -/
  | rdgSublen
  /-- RDG.STATUS (R158). -/
  | rdgStatus
  /-- RDG.LAT_SEQ (R159). -/
  | rdgLatSeq
  /-- RDG.AGAIN (R160). -/
  | rdgAgain
  /-- RDG.EFF_STRUCT (R161). -/
  | rdgEffStruct
  deriving DecidableEq, Repr

end Sys2Proof
end

