-- ==== Sys2Proof/WellFormed.lean ====
section
/-! DEFINITION. Which commands an encoding exists for: each field fits its bits (30_encoding.md R86 to R88). -/

namespace Sys2Proof

/-- The command's fields fit their bits: `band` in 8, `maxblock` in 24, `fs` and `n` in 32. A band of 16 to 255 is well-formed:
it is an empty address and no decode error (R90). -/
def Instr.wellFormed : Instr → Bool
  | .prepare maxblock fs => decide (maxblock < 2 ^ 24) && decide (fs < 2 ^ 32)
  | .process n => decide (n < 2 ^ 32)
  | .nop => true
  | .reset => true
  | .wrbActive band _ => decide (band < 2 ^ 8)
  | .wrbBypass band _ => decide (band < 2 ^ 8)
  | .wrbFtype band _ => decide (band < 2 ^ 8)
  | .wrbOrder band _ => decide (band < 2 ^ 8)
  | .wrbFreq band _ => decide (band < 2 ^ 8)
  | .wrbGain band _ => decide (band < 2 ^ 8)
  | .wrbQ band _ => decide (band < 2 ^ 8)
  | .wrbStereo band _ => decide (band < 2 ^ 8)
  | .wrbDynOn band _ => decide (band < 2 ^ 8)
  | .wrbTgain band _ => decide (band < 2 ^ 8)
  | .wrbTq band _ => decide (band < 2 ^ 8)
  | .wrbThresh band _ => decide (band < 2 ^ 8)
  | .wrbKnee band _ => decide (band < 2 ^ 8)
  | .wrbAttack band _ => decide (band < 2 ^ 8)
  | .wrbRelease band _ => decide (band < 2 ^ 8)
  | .wrbRelThresh band _ => decide (band < 2 ^ 8)
  | .wrbSideFreq band _ => decide (band < 2 ^ 8)
  | .wrbSideQ band _ => decide (band < 2 ^ 8)
  | .wrbSideSwap band _ => decide (band < 2 ^ 8)
  | .wrbLearn band _ => decide (band < 2 ^ 8)
  | .rdbActive band => decide (band < 2 ^ 8)
  | .rdbBypass band => decide (band < 2 ^ 8)
  | .rdbFtype band => decide (band < 2 ^ 8)
  | .rdbOrder band => decide (band < 2 ^ 8)
  | .rdbFreq band => decide (band < 2 ^ 8)
  | .rdbGain band => decide (band < 2 ^ 8)
  | .rdbQ band => decide (band < 2 ^ 8)
  | .rdbStereo band => decide (band < 2 ^ 8)
  | .rdbDynOn band => decide (band < 2 ^ 8)
  | .rdbTgain band => decide (band < 2 ^ 8)
  | .rdbTq band => decide (band < 2 ^ 8)
  | .rdbThresh band => decide (band < 2 ^ 8)
  | .rdbKnee band => decide (band < 2 ^ 8)
  | .rdbAttack band => decide (band < 2 ^ 8)
  | .rdbRelease band => decide (band < 2 ^ 8)
  | .rdbRelThresh band => decide (band < 2 ^ 8)
  | .rdbSideFreq band => decide (band < 2 ^ 8)
  | .rdbSideQ band => decide (band < 2 ^ 8)
  | .rdbSideSwap band => decide (band < 2 ^ 8)
  | .rdbLearn band => decide (band < 2 ^ 8)
  | .rdbCurT band => decide (band < 2 ^ 8)
  | .rdbCurGain band => decide (band < 2 ^ 8)
  | .rdbCurQ band => decide (band < 2 ^ 8)
  | .rdbCurLevel band => decide (band < 2 ^ 8)
  | .rdbHistP05 band => decide (band < 2 ^ 8)
  | .rdbHistP50 band => decide (band < 2 ^ 8)
  | .rdbHistP95 band => decide (band < 2 ^ 8)
  | .rdbNsec band => decide (band < 2 ^ 8)
  | .wrgStructure _ => true
  | .wrgZeroLat _ => true
  | .wrgLookahead _ => true
  | .wrgScPresent _ => true
  | .wrgSolo _ => true
  | .wrgTrim _ => true
  | .wrgEffectOn _ => true
  | .wrgHq _ => true
  | .wrgPhaseFlip _ => true
  | .wrgSgcOn _ => true
  | .wrgMeasure _ => true
  | .wrgRmsMs _ => true
  | .wrgDecaySel _ => true
  | .rdgStructure => true
  | .rdgZeroLat => true
  | .rdgLookahead => true
  | .rdgScPresent => true
  | .rdgSolo => true
  | .rdgTrim => true
  | .rdgEffectOn => true
  | .rdgHq => true
  | .rdgPhaseFlip => true
  | .rdgSgcOn => true
  | .rdgMeasure => true
  | .rdgRmsMs => true
  | .rdgDecaySel => true
  | .rdgLatency => true
  | .rdgSrate => true
  | .rdgMaxblock => true
  | .rdgSublen => true
  | .rdgStatus => true
  | .rdgLatSeq => true
  | .rdgAgain => true
  | .rdgEffStruct => true

end Sys2Proof
end

