-- ==== Sys2Proof/Decode.lean ====
section
/-! DEFINITION. The decoder, total on every 64-bit word, and the encoder (30_encoding.md R85 to R91, R100, R104). -/

namespace Sys2Proof

/-- Why a word is reserved (30_encoding.md R100), in the order of checks of 60_exceptions.md R383. -/
inductive Reserved where
  /-- An opcode in 0x04..0x0F or 0x14..0xFF. -/
  | opcode
  /-- A defined opcode with a non-zero must-be-zero field (R90). -/
  | mustBeZero
  /-- A register command whose register number is no register of its access class (20_memory.md R67). -/
  | register
  deriving DecidableEq, Repr

/-- What a word is: a command, or reserved. -/
inductive Decoded where
  | instr (i : Instr)
  | reserved (r : Reserved)
  deriving DecidableEq, Repr

/-- `cmd[lo + len - 1 : lo]` as a number (00_scope.md R10). -/
def bitField (w lo len : Nat) : Nat := w / 2 ^ lo % 2 ^ len

/-- A register decode that names no register is reserved. -/
def Decoded.ofOption : Option Instr → Decoded
  | some i => .instr i
  | none => .reserved .register

/-- The WRB row of a register number (10_state.md R21, R23, R25, R26). -/
def decodeWrb (reg band : Nat) (data : DataWord) : Option Instr :=
  match reg with
  | 0x00 => some (.wrbActive band data)
  | 0x01 => some (.wrbBypass band data)
  | 0x02 => some (.wrbFtype band data)
  | 0x03 => some (.wrbOrder band data)
  | 0x04 => some (.wrbFreq band data)
  | 0x05 => some (.wrbGain band data)
  | 0x06 => some (.wrbQ band data)
  | 0x07 => some (.wrbStereo band data)
  | 0x08 => some (.wrbDynOn band data)
  | 0x09 => some (.wrbTgain band data)
  | 0x0A => some (.wrbTq band data)
  | 0x0B => some (.wrbThresh band data)
  | 0x0C => some (.wrbKnee band data)
  | 0x0D => some (.wrbAttack band data)
  | 0x0E => some (.wrbRelease band data)
  | 0x0F => some (.wrbRelThresh band data)
  | 0x10 => some (.wrbSideFreq band data)
  | 0x11 => some (.wrbSideQ band data)
  | 0x12 => some (.wrbSideSwap band data)
  | 0x13 => some (.wrbLearn band data)
  | _ => none

/-- The RDB row of a register number (10_state.md R21, R23, R25, R26). -/
def decodeRdb (reg band : Nat) : Option Instr :=
  match reg with
  | 0x00 => some (.rdbActive band)
  | 0x01 => some (.rdbBypass band)
  | 0x02 => some (.rdbFtype band)
  | 0x03 => some (.rdbOrder band)
  | 0x04 => some (.rdbFreq band)
  | 0x05 => some (.rdbGain band)
  | 0x06 => some (.rdbQ band)
  | 0x07 => some (.rdbStereo band)
  | 0x08 => some (.rdbDynOn band)
  | 0x09 => some (.rdbTgain band)
  | 0x0A => some (.rdbTq band)
  | 0x0B => some (.rdbThresh band)
  | 0x0C => some (.rdbKnee band)
  | 0x0D => some (.rdbAttack band)
  | 0x0E => some (.rdbRelease band)
  | 0x0F => some (.rdbRelThresh band)
  | 0x10 => some (.rdbSideFreq band)
  | 0x11 => some (.rdbSideQ band)
  | 0x12 => some (.rdbSideSwap band)
  | 0x13 => some (.rdbLearn band)
  | 0x20 => some (.rdbCurT band)
  | 0x21 => some (.rdbCurGain band)
  | 0x22 => some (.rdbCurQ band)
  | 0x23 => some (.rdbCurLevel band)
  | 0x24 => some (.rdbHistP05 band)
  | 0x25 => some (.rdbHistP50 band)
  | 0x26 => some (.rdbHistP95 band)
  | 0x27 => some (.rdbNsec band)
  | _ => none

/-- The WRG row of a register number (10_state.md R21, R23, R25, R26). -/
def decodeWrg (reg : Nat) (data : DataWord) : Option Instr :=
  match reg with
  | 0x00 => some (.wrgStructure data)
  | 0x01 => some (.wrgZeroLat data)
  | 0x02 => some (.wrgLookahead data)
  | 0x03 => some (.wrgScPresent data)
  | 0x04 => some (.wrgSolo data)
  | 0x05 => some (.wrgTrim data)
  | 0x06 => some (.wrgEffectOn data)
  | 0x07 => some (.wrgHq data)
  | 0x08 => some (.wrgPhaseFlip data)
  | 0x09 => some (.wrgSgcOn data)
  | 0x0A => some (.wrgMeasure data)
  | 0x0B => some (.wrgRmsMs data)
  | 0x0C => some (.wrgDecaySel data)
  | _ => none

/-- The RDG row of a register number (10_state.md R21, R23, R25, R26). -/
def decodeRdg (reg : Nat) : Option Instr :=
  match reg with
  | 0x00 => some .rdgStructure
  | 0x01 => some .rdgZeroLat
  | 0x02 => some .rdgLookahead
  | 0x03 => some .rdgScPresent
  | 0x04 => some .rdgSolo
  | 0x05 => some .rdgTrim
  | 0x06 => some .rdgEffectOn
  | 0x07 => some .rdgHq
  | 0x08 => some .rdgPhaseFlip
  | 0x09 => some .rdgSgcOn
  | 0x0A => some .rdgMeasure
  | 0x0B => some .rdgRmsMs
  | 0x0C => some .rdgDecaySel
  | 0x20 => some .rdgLatency
  | 0x21 => some .rdgSrate
  | 0x22 => some .rdgMaxblock
  | 0x23 => some .rdgSublen
  | 0x24 => some .rdgStatus
  | 0x25 => some .rdgLatSeq
  | 0x26 => some .rdgAgain
  | 0x27 => some .rdgEffStruct
  | _ => none

/-- Decoding (R89 to R91): the opcode, then the must-be-zero fields, then the register. -/
def decode (cmd : CmdWord) : Decoded :=
  let w := cmd.toNat
  let band := bitField w 48 8
  let reg := bitField w 40 8
  let mbz := bitField w 32 8
  let data := bitField w 0 32
  match bitField w 56 8 with
  | 0x00 => if bitField w 0 56 = 0 then .instr .nop else .reserved .mustBeZero
  | 0x01 => if bitField w 0 56 = 0 then .instr .reset else .reserved .mustBeZero
  | 0x02 => .instr (.prepare (bitField w 32 24) data)
  | 0x03 => if bitField w 32 24 = 0 then .instr (.process data) else .reserved .mustBeZero
  | 0x10 => if mbz = 0 then .ofOption (decodeWrb reg band (zext32 data)) else .reserved .mustBeZero
  | 0x11 => if mbz = 0 ∧ data = 0 then .ofOption (decodeRdb reg band) else .reserved .mustBeZero
  | 0x12 => if band = 0 ∧ mbz = 0 then .ofOption (decodeWrg reg (zext32 data)) else .reserved .mustBeZero
  | 0x13 => if band = 0 ∧ mbz = 0 ∧ data = 0 then .ofOption (decodeRdg reg) else .reserved .mustBeZero
  | _ => .reserved .opcode

/-- The instruction the decoder reads from a word given by its bits; a command is one 64-bit word, so bits above 63 do not
exist and missing high bits are 0. -/
def decodeTableWord (nbits w : Nat) : Option Instr :=
  match decode (BitVec.ofNat 64 (w % 2 ^ nbits)) with
  | .instr i => some i
  | .reserved _ => none

/-- A format R word (R86): `op ++ band ++ reg ++ 0x00 ++ data`. -/
def packR (op band reg data : Nat) : CmdWord := BitVec.ofNat 64 (op * 2 ^ 56 + band * 2 ^ 48 + reg * 2 ^ 40 + data)

/-- A format P word (R87), and a format A word (R88) with the high operand 0: `op ++ hi ++ lo`. -/
def packP (op hi lo : Nat) : CmdWord := BitVec.ofNat 64 (op * 2 ^ 56 + hi * 2 ^ 32 + lo)

/-- The word of a well-formed command (R102). -/
def encode : Instr → CmdWord
  | .nop => packR 0x00 0 0 0
  | .reset => packR 0x01 0 0 0
  | .prepare maxblock fs => packP 0x02 maxblock fs
  | .process n => packP 0x03 0 n
  | .wrbActive band data => packR 0x10 band 0x00 data.toNat
  | .wrbBypass band data => packR 0x10 band 0x01 data.toNat
  | .wrbFtype band data => packR 0x10 band 0x02 data.toNat
  | .wrbOrder band data => packR 0x10 band 0x03 data.toNat
  | .wrbFreq band data => packR 0x10 band 0x04 data.toNat
  | .wrbGain band data => packR 0x10 band 0x05 data.toNat
  | .wrbQ band data => packR 0x10 band 0x06 data.toNat
  | .wrbStereo band data => packR 0x10 band 0x07 data.toNat
  | .wrbDynOn band data => packR 0x10 band 0x08 data.toNat
  | .wrbTgain band data => packR 0x10 band 0x09 data.toNat
  | .wrbTq band data => packR 0x10 band 0x0A data.toNat
  | .wrbThresh band data => packR 0x10 band 0x0B data.toNat
  | .wrbKnee band data => packR 0x10 band 0x0C data.toNat
  | .wrbAttack band data => packR 0x10 band 0x0D data.toNat
  | .wrbRelease band data => packR 0x10 band 0x0E data.toNat
  | .wrbRelThresh band data => packR 0x10 band 0x0F data.toNat
  | .wrbSideFreq band data => packR 0x10 band 0x10 data.toNat
  | .wrbSideQ band data => packR 0x10 band 0x11 data.toNat
  | .wrbSideSwap band data => packR 0x10 band 0x12 data.toNat
  | .wrbLearn band data => packR 0x10 band 0x13 data.toNat
  | .rdbActive band => packR 0x11 band 0x00 0
  | .rdbBypass band => packR 0x11 band 0x01 0
  | .rdbFtype band => packR 0x11 band 0x02 0
  | .rdbOrder band => packR 0x11 band 0x03 0
  | .rdbFreq band => packR 0x11 band 0x04 0
  | .rdbGain band => packR 0x11 band 0x05 0
  | .rdbQ band => packR 0x11 band 0x06 0
  | .rdbStereo band => packR 0x11 band 0x07 0
  | .rdbDynOn band => packR 0x11 band 0x08 0
  | .rdbTgain band => packR 0x11 band 0x09 0
  | .rdbTq band => packR 0x11 band 0x0A 0
  | .rdbThresh band => packR 0x11 band 0x0B 0
  | .rdbKnee band => packR 0x11 band 0x0C 0
  | .rdbAttack band => packR 0x11 band 0x0D 0
  | .rdbRelease band => packR 0x11 band 0x0E 0
  | .rdbRelThresh band => packR 0x11 band 0x0F 0
  | .rdbSideFreq band => packR 0x11 band 0x10 0
  | .rdbSideQ band => packR 0x11 band 0x11 0
  | .rdbSideSwap band => packR 0x11 band 0x12 0
  | .rdbLearn band => packR 0x11 band 0x13 0
  | .rdbCurT band => packR 0x11 band 0x20 0
  | .rdbCurGain band => packR 0x11 band 0x21 0
  | .rdbCurQ band => packR 0x11 band 0x22 0
  | .rdbCurLevel band => packR 0x11 band 0x23 0
  | .rdbHistP05 band => packR 0x11 band 0x24 0
  | .rdbHistP50 band => packR 0x11 band 0x25 0
  | .rdbHistP95 band => packR 0x11 band 0x26 0
  | .rdbNsec band => packR 0x11 band 0x27 0
  | .wrgStructure data => packR 0x12 0 0x00 data.toNat
  | .wrgZeroLat data => packR 0x12 0 0x01 data.toNat
  | .wrgLookahead data => packR 0x12 0 0x02 data.toNat
  | .wrgScPresent data => packR 0x12 0 0x03 data.toNat
  | .wrgSolo data => packR 0x12 0 0x04 data.toNat
  | .wrgTrim data => packR 0x12 0 0x05 data.toNat
  | .wrgEffectOn data => packR 0x12 0 0x06 data.toNat
  | .wrgHq data => packR 0x12 0 0x07 data.toNat
  | .wrgPhaseFlip data => packR 0x12 0 0x08 data.toNat
  | .wrgSgcOn data => packR 0x12 0 0x09 data.toNat
  | .wrgMeasure data => packR 0x12 0 0x0A data.toNat
  | .wrgRmsMs data => packR 0x12 0 0x0B data.toNat
  | .wrgDecaySel data => packR 0x12 0 0x0C data.toNat
  | .rdgStructure => packR 0x13 0 0x00 0
  | .rdgZeroLat => packR 0x13 0 0x01 0
  | .rdgLookahead => packR 0x13 0 0x02 0
  | .rdgScPresent => packR 0x13 0 0x03 0
  | .rdgSolo => packR 0x13 0 0x04 0
  | .rdgTrim => packR 0x13 0 0x05 0
  | .rdgEffectOn => packR 0x13 0 0x06 0
  | .rdgHq => packR 0x13 0 0x07 0
  | .rdgPhaseFlip => packR 0x13 0 0x08 0
  | .rdgSgcOn => packR 0x13 0 0x09 0
  | .rdgMeasure => packR 0x13 0 0x0A 0
  | .rdgRmsMs => packR 0x13 0 0x0B 0
  | .rdgDecaySel => packR 0x13 0 0x0C 0
  | .rdgLatency => packR 0x13 0 0x20 0
  | .rdgSrate => packR 0x13 0 0x21 0
  | .rdgMaxblock => packR 0x13 0 0x22 0
  | .rdgSublen => packR 0x13 0 0x23 0
  | .rdgStatus => packR 0x13 0 0x24 0
  | .rdgLatSeq => packR 0x13 0 0x25 0
  | .rdgAgain => packR 0x13 0 0x26 0
  | .rdgEffStruct => packR 0x13 0 0x27 0

end Sys2Proof
end

