-- ==== Sys2Proof/Machine/State.lean ====
section
/-! DEFINITION. The whole state of the block (10_state.md R20 to R41), its reset value (70_reset_and_hazards.md R411), and
the reasons a step can stop. The signal values are of a type `V`, ARITH's (00_scope.md R13); with `V` not written they are
rationals, the values of `exec` and `step` (log entry 1). -/

namespace Sys2Proof.Machine

variable {V : Type} [Zero V] [One V] [NatCast V] [Add V] [Sub V] [Neg V] [Mul V] [Div V]
  [LT V] [LE V] [BEq V] [Min V] [Max V] [DecidableLT V] [DecidableLE V]

/-- The 20 writable registers of a band (10_state.md R21). -/
structure BandRegs (V : Type := Rat) where
  active : Bool
  bypass : Bool
  ftype : FType
  order : Nat
  freq : V
  gain : V
  q : V
  stereo : Stereo
  dynOn : Bool
  tgain : V
  tq : V
  thresh : V
  knee : V
  attack : V
  release : V
  relThresh : Bool
  sideFreq : V
  sideQ : V
  sideSwap : Bool
  learn : Bool
  deriving DecidableEq, Repr

/-- The reset value of Q, TQ and SIDE_Q: f32val(0x3F3504F3) (10_state.md R21). -/
def qReset : V := 11863283 / 16777216

/-- The reset column of 10_state.md R21. -/
def BandRegs.reset : BandRegs V where
  active := false
  bypass := false
  ftype := .peak
  order := 2
  freq := 1000
  gain := 0
  q := qReset
  stereo := .st
  dynOn := false
  tgain := 0
  tq := qReset
  thresh := -20
  knee := 6
  attack := 50
  release := 500
  relThresh := false
  sideFreq := 1000
  sideQ := qReset
  sideSwap := false
  learn := false

/-- The 13 writable global registers (10_state.md R25). `solo` holds 0..16, 16 meaning NONE; `decaySlow` is DECAY_SEL. -/
structure GlobalRegs (V : Type := Rat) where
  struct : Structure
  zeroLat : Bool
  lookahead : V
  scPresent : Bool
  solo : Nat
  trim : V
  effectOn : Bool
  hq : Bool
  phaseFlip : Bool
  sgcOn : Bool
  measure : Bool
  rmsMs : V
  decaySlow : Bool
  deriving DecidableEq, Repr

/-- The reset column of 10_state.md R25. -/
def GlobalRegs.reset : GlobalRegs V where
  struct := .minphase
  zeroLat := false
  lookahead := 0
  scPresent := false
  solo := 16
  trim := 0
  effectOn := true
  hq := false
  phaseFlip := false
  sgcOn := false
  measure := false
  rmsMs := 10
  decaySlow := false

/-- The 8 display registers of a band (10_state.md R23). -/
structure Display (V : Type := Rat) where
  curT : V
  curGain : V
  curQ : V
  curLevel : V
  histP05 : V
  histP50 : V
  histP95 : V
  nsec : Nat
  deriving DecidableEq, Repr

/-- The reset column of 10_state.md R23. -/
def Display.reset : Display V := ⟨0, 0, qReset, -120, 80, 80, 80, 1⟩

/-- An RMS tracker (10_state.md R32, 43_detector_histogram.md R254). -/
structure Tracker (V : Type := Rat) where
  ring : List V
  pos : Nat
  sum : V
  deriving DecidableEq, Repr

/-- A zeroed tracker of window length `w`. -/
def Tracker.zero (w : Nat) : Tracker V := ⟨List.replicate w 0, 0, 0⟩

/-- The threshold histogram of a band (10_state.md R34). -/
structure Hist (V : Type := Rat) where
  bins : List V
  total : V
  deriving DecidableEq, Repr

/-- The cleared histogram: 80 bins of 0, total 0. -/
def Hist.empty : Hist V := ⟨List.replicate Config.histBins 0, 0⟩

/-- The coefficient store of a band (10_state.md R30), with the factor last frozen into a linear-phase FIR
(10_state.md R42, 44_structure_correction.md R317). -/
structure Coefs (V : Type := Rat) where
  baseSpecs : List (Spec V)
  baseSecs : List (Section V)
  sideSec : Option (Section V)
  curSecs : List (Section V)
  tFrozen : V
  deriving DecidableEq, Repr

/-- The empty coefficient store (70_reset_and_hazards.md R411). -/
def Coefs.empty : Coefs V := ⟨[], [], none, [], 0⟩

/-- The detector state of a band (10_state.md R32). -/
structure Detector (V : Type := Rat) where
  sstate : PerSlot (SecState V)
  rms : Tracker V
  ls : V
  t : V
  deriving DecidableEq, Repr

/-- A reset detector with RMS window length `w` (43_detector_histogram.md R268). -/
def Detector.zero (w : Nat) (C : Config V := by first | assumption | exact Sys2Proof.Config.standard) : Detector V :=
  ⟨⟨SecState.zero, SecState.zero⟩, Tracker.zero w, C.levelFloorDb, 0⟩

/-- The filter state of a band, zeroed: 8 pairs for each slot (10_state.md R31). -/
def fstateZero : PerSlot (List (SecState V)) :=
  ⟨List.replicate Config.maxSections SecState.zero, List.replicate Config.maxSections SecState.zero⟩

/-- One of the 16 bands with everything it owns (10_state.md R21, R23, R24, R27, R30 to R32, R34). -/
structure Band (V : Type := Rat) where
  staged : BandRegs V
  comm : BandRegs V
  dirty : Bool
  disp : Display V
  coefs : Coefs V
  fstate : PerSlot (List (SecState V))
  det : Detector V
  hist : Hist V
  deriving DecidableEq, Repr

/-- A band right after reset. -/
def Band.reset (C : Config V := by first | assumption | exact Sys2Proof.Config.standard) : Band V where
  staged := BandRegs.reset
  comm := BandRegs.reset
  dirty := false
  disp := Display.reset
  coefs := Coefs.empty
  fstate := fstateZero
  det := Detector.zero 0
  hist := Hist.empty

/-- The lookahead delay line (10_state.md R35). -/
structure LaLine (V : Type := Rat) where
  buf : List (V × V)
  pos : Nat
  deriving DecidableEq, Repr

/-- A zeroed lookahead line of `n` frames. -/
def LaLine.zero (n : Nat) : LaLine V := ⟨List.replicate n (0, 0), 0⟩

/-- The sub-block FIFO (10_state.md R36). -/
structure Fifo (V : Type := Rat) where
  inp : List (Frame V)
  out : List (V × V)
  pos : Nat
  deriving DecidableEq, Repr

/-- A zeroed FIFO of `n` frames. -/
def Fifo.zero (n : Nat) : Fifo V := ⟨List.replicate n Frame.zero, List.replicate n (0, 0), 0⟩

/-- One channel slot of a correction stage (10_state.md R37). -/
structure CorrSlot (V : Type := Rat) where
  taps : List V
  hist : List V
  cpos : Nat
  deriving DecidableEq, Repr

/-- A correction slot right after reset: no taps, and a zeroed history of length H, which 10_state.md R37 gives in every
structure and at every FS. -/
def CorrSlot.reset (C : Config V := by first | assumption | exact Sys2Proof.Config.standard) : CorrSlot V :=
  ⟨[], List.replicate C.corrHistLen 0, 0⟩

/-- The automatic-gain accumulators (10_state.md R38). -/
structure Meas (V : Type := Rat) where
  preSum : V
  preN : Nat
  postSum : V
  postN : Nat
  deriving DecidableEq, Repr

/-- Zeroed accumulators. -/
def Meas.zero : Meas V := ⟨0, 0, 0, 0⟩

/-- What stands at the block's ports: the model's own (10_state.md R43 says that the command stream and the frames are the
step's inputs, not the block's state; log entries 4 to 9). `cmds` is the merge of the two ports' command streams,
`audioIn` and `audioOut` the two audio streams, `respCtrl` and `respAudio` the response words given on each port,
`events` the events signalled to HOST, `publish` the `publish_ok` draws of the next detector updates (20_memory.md R76;
an empty list draws true), `cur` the port of the command being executed. -/
structure Ports where
  cmds : List PortCmd
  audioIn : List DataWord
  audioOut : List DataWord
  respCtrl : List DataWord
  respAudio : List DataWord
  events : List Event
  publish : List Bool
  cur : Port
  deriving DecidableEq, Repr

/-- Ports with nothing at them. -/
def Ports.idle : Ports := ⟨[], [], [], [], [], [], [], .ctrl⟩

/-- The state of the block (10_state.md R20). -/
structure State (V : Type := Rat) where
  /-- The 16 bands (R21, R23, R24, R27, R30 to R32, R34). -/
  bands : Vector (Band V) Config.numBands
  /-- Staged global registers PG (R25). -/
  pg : GlobalRegs V
  /-- Committed global registers CG (R24). -/
  cg : GlobalRegs V
  /-- GDIRTY (R27). -/
  gdirty : Bool
  /-- PEND_S (R27). -/
  pendS : Bool
  /-- PEND_G (R27). -/
  pendG : Bool
  /-- PEND_B (R27). -/
  pendB : Bool
  /-- PREPARED (R41). -/
  prepared : Bool
  /-- FS in Hz (R41). -/
  fs : Nat
  /-- MAXBLOCK (R41). -/
  maxblock : Nat
  /-- SUBLEN (R41). -/
  sublen : Nat
  /-- LATENCY in frames (R26). -/
  latency : Nat
  /-- LAT_SEQ, modulo 2^32 (R26). -/
  latSeq : BitVec 32
  /-- W, the RMS window length of all trackers (R32). -/
  w : Nat
  /-- The five baseline trackers (R33). -/
  base : PerMode (Tracker V)
  /-- The lookahead delay line (R35). -/
  la : LaLine V
  /-- The sub-block FIFO (R36). -/
  fifo : Fifo V
  /-- The three correction stages (R37). -/
  corr : PerGroup (PerSlot (CorrSlot V))
  /-- The aggregated static gains (R38). -/
  sgc : PerMode V
  /-- The automatic-gain accumulators (R38). -/
  meas : Meas V
  /-- AGAIN in dB (R38). -/
  again : V
  /-- The solo filter's section, if any (R39). -/
  soloSec : Option (Section V)
  /-- The solo filter's state (R39). -/
  soloState : PerSlot (SecState V)
  /-- The ports (the model's own, R43). -/
  io : Ports
  deriving DecidableEq, Repr

/-- The block raises nothing (60_exceptions.md R380, 93_implementation_defined.md: "Nothing in the block is `fault` or
`stuck`"), so there is no fault: the type has no constructor. -/
inductive Fault where
  deriving DecidableEq, Repr

/-- Why the model gives a step no meaning. -/
inductive Refusal where
  /-- An instruction with no meaning yet; raised by `exec`'s arm only. Safe. -/
  | notModelled (mnemonic : String)
  /-- PROCESS met an input sample it reads that is a NaN or an infinity: 30_encoding.md R99 puts the block's behaviour from
  that frame on outside the spec, and 93_implementation_defined.md U1 has the model decline to step. Raised by PROCESS. Safe. -/
  | nonFiniteSample
  deriving DecidableEq, Repr

/-- The state right after power-on or RESET (70_reset_and_hazards.md R410, R411), with idle ports, in a configuration. -/
def State.resetIn (C : Config V) : State V where
  bands := Vector.replicate Config.numBands Band.reset
  pg := GlobalRegs.reset
  cg := GlobalRegs.reset
  gdirty := false
  pendS := false
  pendG := false
  pendB := false
  prepared := false
  fs := 0
  maxblock := 0
  sublen := 0
  latency := 0
  latSeq := 0
  w := 0
  base := PerMode.of fun _ => Tracker.zero 0
  la := LaLine.zero 0
  fifo := Fifo.zero 0
  corr := ⟨⟨CorrSlot.reset, CorrSlot.reset⟩, ⟨CorrSlot.reset, CorrSlot.reset⟩, ⟨CorrSlot.reset, CorrSlot.reset⟩⟩
  sgc := PerMode.of fun _ => 1
  meas := Meas.zero
  again := 0
  soloSec := none
  soloState := ⟨SecState.zero, SecState.zero⟩
  io := Ports.idle

/-- The state right after power-on or RESET of the machine `step` runs. -/
def State.reset : State := State.resetIn Config.standard

end Sys2Proof.Machine
end

