-- ==== Sys2Proof/Machine/Operands.lean ====
section
/-! DEFINITION. The operand forms: binary32 words (30_encoding.md R95, R99), the data kinds (R94 to R98) and the register
tables of 10_state.md R21, R23, R25, R26 with the kind, range and class of every register. -/

namespace Sys2Proof.Machine

open Arith (clamp)

/-! ### binary32 -/

/-- What a 32-bit word denotes (00_scope.md R11, `f32val`). -/
inductive F32 where
  | nan
  | inf (negative : Bool)
  | fin (v : Rat)
  deriving DecidableEq, Repr

/-- `mantissa * 2^(e - 150)` for a biased exponent `e`. -/
def scaleF32 (m e : Nat) : Rat := if 150 ≤ e then mkRat (m * 2 ^ (e - 150)) 1 else mkRat m (2 ^ (150 - e))

/-- `f32val(w)` (30_encoding.md R95). -/
def f32val (w : DataWord) : F32 :=
  let s := w.toNat / 2 ^ 31
  let e := w.toNat / 2 ^ 23 % 2 ^ 8
  let m := w.toNat % 2 ^ 23
  if e = 255 then (if m = 0 then .inf (s == 1) else .nan)
  else
    let v := if e = 0 then scaleF32 m 1 else scaleF32 (2 ^ 23 + m) e
    .fin (if s = 1 then -v else v)

variable {V : Type} [Zero V] [One V] [NatCast V] [Add V] [Sub V] [Neg V] [Mul V] [Div V]
  [LT V] [LE V] [BEq V] [Min V] [Max V] [DecidableLT V] [DecidableLE V]

/-- A number `x >= 0` rounded to the nearest integer, ties to even. -/
def roundEven (x : V) (C : Config V := by first | assumption | exact Sys2Proof.Config.standard) : Nat :=
  let q := (C.floor x).toNat
  let r := x - (q : V)
  if r + r < 1 then q else if 1 < r + r then q + 1 else q + q % 2

/-- The largest finite binary32, (2^24 - 1) * 2^104. -/
def maxF32 : Rat := scaleF32 (2 ^ 24 - 1) 254

/-- The biased exponent of the binade of `v`: the greatest of `k, ..., 2` whose least normal number is at most `v`, else 1, which
the subnormals share. -/
def f32Exp (v : V) (k : Nat) (C : Config V := by first | assumption | exact Sys2Proof.Config.standard) : Nat :=
  match k with
  | 0 => 1
  | k + 1 => if C.ofRat (scaleF32 (2 ^ 23) (k + 1)) ≤ v then k + 1 else f32Exp v k C

/-- The bits below the sign of `f32enc` of a number `v >= 0`: rounded to nearest, ties to even, on the grid of its binade; the
infinity where `v` exceeds the largest finite binary32 (R99). -/
def f32mag (v : V) (C : Config V := by first | assumption | exact Sys2Proof.Config.standard) : Nat :=
  if C.ofRat maxF32 < v then 0x7F800000
  else
    let e := f32Exp v 254
    (e - 1) * 2 ^ 23 + roundEven (v / C.ofRat (scaleF32 1 e))

/-- `f32enc(v)` (00_scope.md R11, 30_encoding.md R99): the real 0 gives 0x00000000; a negative real keeps its sign bit when
it rounds to zero (log entry 10). -/
def f32enc (v : V) (C : Config V := by first | assumption | exact Sys2Proof.Config.standard) : DataWord :=
  zext32 (if v < 0 then 2 ^ 31 + f32mag (-v) else f32mag v)

/-! ### Data kinds -/

/-- `legal_order(u)` (40_register_commands.md R112). -/
def legalOrder (u : Nat) : Nat := if u ≤ 1 then 1 else if 16 ≤ u then 16 else if u % 2 = 0 then u else u - 1

/-- The f32 write decode with range [lo, hi] (R95): `none` is "ignored". -/
def decodeF32 (lo hi : V) (d : DataWord)
    (C : Config V := by first | assumption | exact Sys2Proof.Config.standard) : Option V :=
  match f32val d with
  | .nan => none
  | .inf negative => some (if negative then lo else hi)
  | .fin v => some (clamp (C.ofRat v) lo hi)

/-- The bool write decode (R96). -/
def decodeBool (d : DataWord) : Bool := d != 0

/-- The enum write decode with range 0..hi (R97). -/
def decodeEnum (hi : Nat) (d : DataWord) : Nat := min d.toNat hi

/-- The order write decode (R98). -/
def decodeOrder (d : DataWord) : Nat := legalOrder d.toNat

/-- The bool read encode (R94). -/
def encodeBool (b : Bool) : DataWord := if b then 1 else 0

/-! ### Band registers -/

/-- The 20 writable band registers (10_state.md R21). -/
inductive BandReg where
  | active | bypass | ftype | order | freq | gain | q | stereo | dynOn | tgain | tq | thresh | knee | attack | release
  | relThresh | sideFreq | sideQ | sideSwap | learn
  deriving DecidableEq, Repr

/-- The class column of 10_state.md R21. -/
def BandReg.cls : BandReg → RegClass
  | .active | .stereo => .g
  | .bypass => .b
  | _ => .n

/-- The value of a data word stored into a register of a band's file (R94 to R98 with the kind and range of 10_state.md R21);
`none` where the write is ignored. -/
def BandReg.store (r : BandReg) (d : DataWord) (x : BandRegs V)
    (C : Config V := by first | assumption | exact Sys2Proof.Config.standard) : Option (BandRegs V) :=
  match r with
  | .active => some { x with active := decodeBool d }
  | .bypass => some { x with bypass := decodeBool d }
  | .ftype => some { x with ftype := FType.ofCode (decodeEnum 8 d) }
  | .order => some { x with order := decodeOrder d }
  | .freq => (decodeF32 C.freqMin C.freqMax d).map fun v => { x with freq := v }
  | .gain => (decodeF32 C.gainMin C.gainMax d).map fun v => { x with gain := v }
  | .q => (decodeF32 Config.qMin Config.qMax d).map fun v => { x with q := v }
  | .stereo => some { x with stereo := Stereo.ofCode (decodeEnum 4 d) }
  | .dynOn => some { x with dynOn := decodeBool d }
  | .tgain => (decodeF32 C.gainMin C.gainMax d).map fun v => { x with tgain := v }
  | .tq => (decodeF32 Config.qMin Config.qMax d).map fun v => { x with tq := v }
  | .thresh => (decodeF32 C.threshMin C.threshMax d).map fun v => { x with thresh := v }
  | .knee => (decodeF32 C.kneeMin C.kneeMax d).map fun v => { x with knee := v }
  | .attack => (decodeF32 0 C.attackMax d).map fun v => { x with attack := v }
  | .release => (decodeF32 0 C.releaseMax d).map fun v => { x with release := v }
  | .relThresh => some { x with relThresh := decodeBool d }
  | .sideFreq => (decodeF32 C.freqMin C.freqMax d).map fun v => { x with sideFreq := v }
  | .sideQ => (decodeF32 Config.qMin Config.qMax d).map fun v => { x with sideQ := v }
  | .sideSwap => some { x with sideSwap := decodeBool d }
  | .learn => some { x with learn := decodeBool d }

/-- The response word of a register of a band's file (R92, R94). -/
def BandReg.load (r : BandReg) (x : BandRegs V)
    (C : Config V := by first | assumption | exact Sys2Proof.Config.standard) : DataWord :=
  match r with
  | .active => encodeBool x.active
  | .bypass => encodeBool x.bypass
  | .ftype => zext32 x.ftype.code
  | .order => zext32 x.order
  | .freq => f32enc x.freq
  | .gain => f32enc x.gain
  | .q => f32enc x.q
  | .stereo => zext32 x.stereo.code
  | .dynOn => encodeBool x.dynOn
  | .tgain => f32enc x.tgain
  | .tq => f32enc x.tq
  | .thresh => f32enc x.thresh
  | .knee => f32enc x.knee
  | .attack => f32enc x.attack
  | .release => f32enc x.release
  | .relThresh => encodeBool x.relThresh
  | .sideFreq => f32enc x.sideFreq
  | .sideQ => f32enc x.sideQ
  | .sideSwap => encodeBool x.sideSwap
  | .learn => encodeBool x.learn

/-- The 8 display registers (10_state.md R23). -/
inductive DispReg where
  | curT | curGain | curQ | curLevel | histP05 | histP50 | histP95 | nsec
  deriving DecidableEq, Repr

/-- The response word of a display register (40_register_commands.md R133 to R140). -/
def DispReg.load (r : DispReg) (x : Display V)
    (C : Config V := by first | assumption | exact Sys2Proof.Config.standard) : DataWord :=
  match r with
  | .curT => f32enc x.curT
  | .curGain => f32enc x.curGain
  | .curQ => f32enc x.curQ
  | .curLevel => f32enc x.curLevel
  | .histP05 => f32enc x.histP05
  | .histP50 => f32enc x.histP50
  | .histP95 => f32enc x.histP95
  | .nsec => zext32 x.nsec

/-! ### Global registers -/

/-- The 13 writable global registers (10_state.md R25). -/
inductive GlobalReg where
  | struct | zeroLat | lookahead | scPresent | solo | trim | effectOn | hq | phaseFlip | sgcOn | measure | rmsMs | decaySel
  deriving DecidableEq, Repr

/-- The class column of 10_state.md R25. -/
def GlobalReg.cls : GlobalReg → RegClass
  | .struct | .zeroLat | .lookahead => .s
  | .solo | .effectOn => .b
  | _ => .n

/-- The value of a data word stored into a register of the global file (R94 to R98 with the kind and range of
10_state.md R25); `none` where the write is ignored. -/
def GlobalReg.store (r : GlobalReg) (d : DataWord) (x : GlobalRegs V)
    (C : Config V := by first | assumption | exact Sys2Proof.Config.standard) : Option (GlobalRegs V) :=
  match r with
  | .struct => some { x with struct := Structure.ofCode (decodeEnum 5 d) }
  | .zeroLat => some { x with zeroLat := decodeBool d }
  | .lookahead => (decodeF32 0 C.laMaxMs d).map fun v => { x with lookahead := v }
  | .scPresent => some { x with scPresent := decodeBool d }
  | .solo => some { x with solo := decodeEnum 16 d }
  | .trim => (decodeF32 C.trimMin C.trimMax d).map fun v => { x with trim := v }
  | .effectOn => some { x with effectOn := decodeBool d }
  | .hq => some { x with hq := decodeBool d }
  | .phaseFlip => some { x with phaseFlip := decodeBool d }
  | .sgcOn => some { x with sgcOn := decodeBool d }
  | .measure => some { x with measure := decodeBool d }
  | .rmsMs => (decodeF32 0 C.rmsMsMax d).map fun v => { x with rmsMs := v }
  | .decaySel => some { x with decaySlow := decodeEnum 1 d == 1 }

/-- The response word of a register of the global file (R92, R94). -/
def GlobalReg.load (r : GlobalReg) (x : GlobalRegs V)
    (C : Config V := by first | assumption | exact Sys2Proof.Config.standard) : DataWord :=
  match r with
  | .struct => zext32 x.struct.code
  | .zeroLat => encodeBool x.zeroLat
  | .lookahead => f32enc x.lookahead
  | .scPresent => encodeBool x.scPresent
  | .solo => zext32 x.solo
  | .trim => f32enc x.trim
  | .effectOn => encodeBool x.effectOn
  | .hq => encodeBool x.hq
  | .phaseFlip => encodeBool x.phaseFlip
  | .sgcOn => encodeBool x.sgcOn
  | .measure => encodeBool x.measure
  | .rmsMs => f32enc x.rmsMs
  | .decaySel => encodeBool x.decaySlow

/-- The 8 read-only global registers (10_state.md R26). -/
inductive RoReg where
  | latency | srate | maxblock | sublen | status | latSeq | again | effStruct
  deriving DecidableEq, Repr

end Sys2Proof.Machine
end

