-- ==== Sys2Proof/Machine/Flags.lean ====
section
/-! DEFINITION. The 19 dirty and pending flags (10_state.md R27): what a write sets, and STATUS, where they are read. There
are no arithmetic condition codes anywhere in the block (R27). -/

namespace Sys2Proof.Machine

variable {V : Type}

/-- The flag a write to a band register of class `c` sets (40_register_commands.md R108): DIRTY[b], PEND_G or PEND_B. No
band register is of class S. -/
def State.flagBand (s : State V) (b : Fin Config.numBands) (c : RegClass) : State V :=
  match c with
  | .n => { s with bands := s.bands.set b { s.bands[b] with dirty := true } }
  | .g => { s with pendG := true }
  | .b => { s with pendB := true }
  | .s => { s with pendS := true }

/-- The flag a write to a global register of class `c` sets (40_register_commands.md R110): GDIRTY, PEND_S or PEND_B. No
global register is of class G. -/
def State.flagGlobal (s : State V) (c : RegClass) : State V :=
  match c with
  | .n => { s with gdirty := true }
  | .s => { s with pendS := true }
  | .b => { s with pendB := true }
  | .g => { s with pendG := true }

/-- The STATUS word (40_register_commands.md R158): bit 0 PREPARED, bit 1 PEND_S, bit 2 PEND_G, bit 3 PEND_B, bit 4 GDIRTY,
bits 31:5 zero. -/
def State.statusWord (s : State V) : DataWord :=
  zext32 (s.prepared.toNat + 2 * s.pendS.toNat + 4 * s.pendG.toNat + 8 * s.pendB.toNat + 16 * s.gdirty.toNat)

end Sys2Proof.Machine
end

