-- ==== Sys2Proof/Machine/Ops.lean ====
section
/-! DEFINITION. The operations shared by the commands: walks over the 16 bands, register access (40_register_commands.md
R108 to R111), responses, reserved words (30_encoding.md R100), the latency figure and the block's one event
(45_controller.md R352, R353). The block takes no exception (60_exceptions.md R380, R384), so there is none to take here. -/

namespace Sys2Proof.Machine

/-! ### Walks over a fixed number of like things -/

/-- One function on every element. -/
def mapV {α β : Type} {n : Nat} (f : α → β) (v : Vector α n) : Vector β n :=
  ⟨(v.toList.map f).toArray, by simp⟩

/-- A walk in ascending order from index `i`, an accumulator passed along. -/
def accL {σ α : Type} (f : Nat → σ → α → σ × α) : Nat → σ → List α → σ × List α
  | _, a, [] => (a, [])
  | i, a, x :: xs => ((accL f (i + 1) (f i a x).1 xs).1, (f i a x).2 :: (accL f (i + 1) (f i a x).1 xs).2)

/-- A walk keeps the number of elements. -/
theorem accL_length {σ α : Type} (f : Nat → σ → α → σ × α) :
    ∀ (xs : List α) (i : Nat) (a : σ), (accL f i a xs).2.length = xs.length
  | [], _, _ => rfl
  | _ :: xs, i, _ => congrArg (· + 1) (accL_length f xs (i + 1) _)

/-- A walk over a vector in ascending order of index, an accumulator passed along. -/
def accV {σ α : Type} {n : Nat} (f : Nat → σ → α → σ × α) (a : σ) (v : Vector α n) : σ × Vector α n :=
  ((accL f 0 a v.toList).1, ⟨(accL f 0 a v.toList).2.toArray, by simp [accL_length]⟩)

variable {V : Type} [Zero V] [One V] [NatCast V] [Add V] [Sub V] [Neg V] [Mul V] [Div V]
  [LT V] [LE V] [BEq V] [Min V] [Max V] [DecidableLT V] [DecidableLE V]

/-! ### The ports -/

/-- The port whose agent issues an opcode (00_scope.md R6): AUDIO issues RESET, PREPARE and PROCESS, CTRL the others. -/
def portOf (w : CmdWord) : Port :=
  if bitField w.toNat 56 8 = 0x01 ∨ bitField w.toNat 56 8 = 0x02 ∨ bitField w.toNat 56 8 = 0x03 then .audio else .ctrl

/-- A response word on the port the running command came from (30_encoding.md R92, 60_exceptions.md R388). -/
def State.respond (s : State V) (r : DataWord) : State V :=
  match s.io.cur with
  | .ctrl => { s with io := { s.io with respCtrl := s.io.respCtrl ++ [r] } }
  | .audio => { s with io := { s.io with respAudio := s.io.respAudio ++ [r] } }

/-- The next command taken off the merged stream (20_memory.md R69, R70). -/
def State.takeCmd (s : State V) (c : PortCmd) (rest : List PortCmd) : State V :=
  { s with io := { s.io with cmds := rest, cur := c.port } }

/-- A reserved word (30_encoding.md R100): nothing changes; a reserved RDB or RDG still answers 0. -/
def State.reserved (s : State V) (w : CmdWord) : State V :=
  if bitField w.toNat 56 8 = 0x11 ∨ bitField w.toNat 56 8 = 0x13 then s.respond 0 else s

/-! ### Register access -/

/-- WRB (40_register_commands.md R108) of a writable register: band above 15 or ignored data, nothing; else the staged value
is stored, then the flag of the register's class set (20_memory.md R71). -/
def State.writeBand (s : State V) (r : BandReg) (band : Nat) (data : DataWord)
    (C : Config V := by first | assumption | exact Sys2Proof.Config.standard) : State V :=
  if h : band < Config.numBands then
    match r.store data s.bands[band].staged with
    | none => s
    | some x => ({ s with bands := s.bands.set band { s.bands[band] with staged := x } }).flagBand ⟨band, h⟩ r.cls
  else s

/-- RDB (R109) of a writable register: the staged copy; 0 for a band above 15. -/
def State.readBand (s : State V) (r : BandReg) (band : Nat)
    (C : Config V := by first | assumption | exact Sys2Proof.Config.standard) : DataWord :=
  if h : band < Config.numBands then r.load s.bands[band].staged else 0

/-- RDB (R109) of a display register; 0 for a band above 15. -/
def State.readDisplay (s : State V) (r : DispReg) (band : Nat)
    (C : Config V := by first | assumption | exact Sys2Proof.Config.standard) : DataWord :=
  if h : band < Config.numBands then r.load s.bands[band].disp else 0

/-- WRG (R110) of a writable register: ignored data, nothing; else the staged value is stored, then the flag set. -/
def State.writeGlobal (s : State V) (r : GlobalReg) (data : DataWord)
    (C : Config V := by first | assumption | exact Sys2Proof.Config.standard) : State V :=
  match r.store data s.pg with
  | none => s
  | some x => ({ s with pg := x }).flagGlobal r.cls

/-- RDG (R111) of a writable register: the staged copy. -/
def State.readGlobal (s : State V) (r : GlobalReg)
    (C : Config V := by first | assumption | exact Sys2Proof.Config.standard) : DataWord := r.load s.pg

/-- ES, the effective structure (44_structure_correction.md R291) of committed globals. -/
def effStruct (cg : GlobalRegs V) : Structure :=
  if cg.zeroLat && cg.struct.correcting then .minphase else cg.struct

/-- RDG (R111) of a read-only register (R154 to R161). -/
def State.readRo (s : State V) (r : RoReg)
    (C : Config V := by first | assumption | exact Sys2Proof.Config.standard) : DataWord :=
  match r with
  | .latency => zext32 s.latency
  | .srate => zext32 s.fs
  | .maxblock => zext32 s.maxblock
  | .sublen => zext32 s.sublen
  | .status => s.statusWord
  | .latSeq => s.latSeq
  | .again => f32enc s.again
  | .effStruct => zext32 (effStruct s.cg).code

/-! ### Groups and latency -/

/-- Whether a band puts a group in use (44_structure_correction.md R297). -/
def Band.usesGroup (b : Band V) (g : Group) : Bool :=
  b.comm.active && (b.comm.stereo == g.memberMode .s0 || b.comm.stereo == g.memberMode .s1)

/-- Group in use (44_structure_correction.md R297): ST always, LR and MS iff an active band has one of their modes. -/
def groupInUse (bands : Vector (Band V) Config.numBands) : Group → Bool
  | .st => true
  | g => bands.toList.any (·.usesGroup g)

/-- NG, the number of groups in use (44_structure_correction.md R304). -/
def groupCount (bands : Vector (Band V) Config.numBands) : Nat :=
  1 + (groupInUse bands .lr).toNat + (groupInUse bands .ms).toNat

/-- LA in frames (45_controller.md R344). -/
def laFrames (cg : GlobalRegs V) (fs : Nat)
    (C : Config V := by first | assumption | exact Sys2Proof.Config.standard) : Nat :=
  Arith.roundNat (cg.lookahead * (fs : V) / 1000)

/-- W in frames (43_detector_histogram.md R255). -/
def rmsWindow (cg : GlobalRegs V) (fs : Nat)
    (C : Config V := by first | assumption | exact Sys2Proof.Config.standard) : Nat :=
  max 1 (Arith.roundNat (cg.rmsMs * (fs : V) / 1000))

/-- SUBLEN in frames (45_controller.md R362). -/
def subLen (fs : Nat) (C : Config V := by first | assumption | exact Sys2Proof.Config.standard) : Nat :=
  max 1 (C.floor ((fs : V) * C.subblockSec)).toNat

/-- M(ES), the group delay of one correction filter (44_structure_correction.md R305); 0 where there is none. -/
def Structure.corrM (es : Structure) (C : Config V := by first | assumption | exact Sys2Proof.Config.standard) : Nat :=
  match es with
  | .matched => C.corrMMatched
  | .mixed => C.corrMMixed
  | .linear => C.corrMLinear
  | _ => 0

/-- The latency of a state's committed registers (45_controller.md R352). -/
def State.latencyOf (s : State V) (C : Config V := by first | assumption | exact Sys2Proof.Config.standard) : Nat :=
  laFrames s.cg s.fs + (if s.cg.zeroLat then 0 else s.sublen) +
    (if (effStruct s.cg).correcting then groupCount s.bands * (effStruct s.cg).corrM else 0)

/-- LATENCY recomputed; on a change LAT_SEQ counts it modulo 2^32 and LATENCY_CHANGED is signalled to HOST
(45_controller.md R353, 60_exceptions.md R386). -/
def State.updateLatency (s : State V) (C : Config V := by first | assumption | exact Sys2Proof.Config.standard) : State V :=
  if s.latencyOf = s.latency then s
  else
    { s with
      latency := s.latencyOf
      latSeq := s.latSeq + 1
      io := { s.io with events := s.io.events ++ [.latencyChanged s.latencyOf] } }

end Sys2Proof.Machine
end

