-- ==== Sys2Proof/Machine/BandFilter.lean ====
section
/-! DEFINITION. The band filter (42_band_filter.md): the two section realizations, the morph, one band over a lane, and the
series and parallel lanes. -/

namespace Sys2Proof.Machine

open Arith

variable {V : Type} [Zero V] [One V] [NatCast V] [Add V] [Sub V] [Neg V] [Mul V] [Div V]
  [LT V] [LE V] [BEq V] [Min V] [Max V] [DecidableLT V] [DecidableLE V]

/-- TDF2.TICK (R223). -/
def tdf2Tick (c : Section V) (st : SecState V) (x : V) : V × SecState V :=
  let y := c.b0 * x + st.z1
  (y, ⟨c.b1 * x - c.a1 * y + st.z2, c.b2 * x - c.a2 * y⟩)

/-- The five parameters of a trapezoidal state-variable section (R226). -/
structure SvfParams (V : Type := Rat) where
  g : V
  k : V
  m0 : V
  m1 : V
  m2 : V
  deriving DecidableEq, Repr

/-- SVF.PARAMS (R226). -/
def svfParams (c : Section V) (C : Config V := by first | assumption | exact Sys2Proof.Config.standard) : SvfParams V :=
  let p := 1 + c.a1 + c.a2
  let m := 1 - c.a1 + c.a2
  let g := C.sqrt (p / m)
  let k := 2 * (1 - c.a2) / C.sqrt (p * m)
  let B0 := (c.b0 - c.b1 + c.b2) / m
  let B2 := (c.b0 + c.b1 + c.b2) / p
  let B1 := 2 * (c.b0 - c.b2) / (g * m)
  ⟨g, k, B0, B1 - B0 * k, B2 - B0⟩

/-- SVF.TICK (R227). -/
def svfTick (v : SvfParams V) (st : SecState V) (x : V) : V × SecState V :=
  let c1 := 1 / (1 + v.g * (v.g + v.k))
  let c2 := v.g * c1
  let c3 := v.g * c2
  let v3 := x - st.z2
  let v1 := c1 * st.z1 + c2 * v3
  let v2 := st.z2 + c2 * st.z1 + c3 * v3
  (v.m0 * x + v.m1 * v1 + v.m2 * v2, ⟨2 * v1 - st.z1, 2 * v2 - st.z2⟩)

/-- The section tick of an effective structure (R222). -/
def sectionTick (es : Structure) (c : Section V) (st : SecState V) (x : V)
    (C : Config V := by first | assumption | exact Sys2Proof.Config.standard) : V × SecState V :=
  if es = .svf then svfTick (svfParams c) st x else tdf2Tick c st x

/-- The cascade inside a band (R224): sections in list order, each with the state pair of its index; the pairs beyond the
last section rest. -/
def cascade (es : Structure) (cs : List (Section V)) (sts : List (SecState V)) (x : V)
    (C : Config V := by first | assumption | exact Sys2Proof.Config.standard) : V × List (SecState V) :=
  match cs, sts with
  | c :: cs, st :: sts =>
    let r := sectionTick es c st x
    let z := cascade es cs sts r.1 C
    (z.1, r.2 :: z.2)
  | _, sts => (x, sts)

/-- MORPH(b, t) (R230) of a band's committed registers: the gain in dB and the Q. -/
def morph (c : BandRegs V) (t : V) : V × V :=
  ((1 - t) * c.gain + t * c.tgain, (1 - t) * c.q + t * c.tq)

/-- The sections of a frame (R231, R232): a dynamic band is designed at the factor `t` and publishes what was designed
(R237); a static band runs its base design. -/
def Band.sectionsAt (b : Band V) (fs : Nat) (t : V)
    (C : Config V := by first | assumption | exact Sys2Proof.Config.standard) : Band V :=
  if b.comm.dynOn then
    { b with
      coefs := { b.coefs with
        curSecs := design b.comm.ftype b.comm.freq (morph b.comm t).1 (morph b.comm t).2 b.comm.order fs }
      disp := { b.disp with curGain := (morph b.comm t).1, curQ := (morph b.comm t).2 } }
  else { b with coefs := { b.coefs with curSecs := b.coefs.baseSecs } }

/-- BAND.TICK (R238): sample `x` of the frame whose factor is `t`, on a channel slot. -/
def bandTick (es : Structure) (fs : Nat) (slot : Slot) (b : Band V) (t x : V)
    (C : Config V := by first | assumption | exact Sys2Proof.Config.standard) : V × Band V :=
  let b1 := b.sectionsAt fs t
  let r := cascade es b1.coefs.curSecs (b1.fstate.get slot) x
  (r.1, { b1 with fstate := b1.fstate.set slot r.2 })

/-- A band over the samples of a sub-block, with the factors of its frames. -/
def bandRun (es : Structure) (fs : Nat) (slot : Slot) (b : Band V) (ts xs : List V)
    (C : Config V := by first | assumption | exact Sys2Proof.Config.standard) : List V × Band V :=
  match xs with
  | [] => ([], b)
  | x :: xs =>
    let r := bandTick es fs slot b (ts.headD 0) x
    let z := bandRun es fs slot r.2 ts.tail xs C
    (r.1 :: z.1, z.2)

/-- Members of a lane (44_structure_correction.md R303): active, not bypassed, of the slot's member mode. -/
def Band.member (b : Band V) (m : Stereo) : Bool := b.comm.active && !b.comm.bypass && b.comm.stereo == m

/-- The series lane (R234): members in ascending index, each fed the output of the one before. `tseqs` holds the factors of
each band's frames. -/
def laneSeries (es : Structure) (fs : Nat) (m : Stereo) (slot : Slot) (tseqs : List (List V))
    (bands : Vector (Band V) Config.numBands) (xs : List V)
    (C : Config V := by first | assumption | exact Sys2Proof.Config.standard) : List V × Vector (Band V) Config.numBands :=
  accV (fun i v b => if b.member m then bandRun es fs slot b (tseqs.getD i []) v else (v, b)) xs bands

/-- The parallel lane (R235): x + sum over members of (BAND.TICK(b, x) - x), in ascending index. -/
def laneParallel (es : Structure) (fs : Nat) (m : Stereo) (slot : Slot) (tseqs : List (List V))
    (bands : Vector (Band V) Config.numBands) (xs : List V)
    (C : Config V := by first | assumption | exact Sys2Proof.Config.standard) : List V × Vector (Band V) Config.numBands :=
  accV (fun i acc b =>
    if b.member m then
      let r := bandRun es fs slot b (tseqs.getD i []) xs
      (acc.zipWith (· + ·) (r.1.zipWith (· - ·) xs), r.2)
    else (acc, b)) xs bands

/-- A lane in NORMAL mode (R234 to R236): in LINEAR the sections are not run. -/
def laneRun (es : Structure) (fs : Nat) (m : Stereo) (slot : Slot) (tseqs : List (List V))
    (bands : Vector (Band V) Config.numBands) (xs : List V)
    (C : Config V := by first | assumption | exact Sys2Proof.Config.standard) : List V × Vector (Band V) Config.numBands :=
  match es with
  | .linear => (xs, bands)
  | .parallel => laneParallel es fs m slot tseqs bands xs
  | _ => laneSeries es fs m slot tseqs bands xs

end Sys2Proof.Machine
end

