-- ==== Sys2Proof/Machine/DetectorUnit.lean ====
section
/-! DEFINITION. The sidechain detector, the relative baseline and the threshold-learning histogram
(43_detector_histogram.md). -/

namespace Sys2Proof.Machine

open Arith

variable {V : Type} [Zero V] [One V] [NatCast V] [Add V] [Sub V] [Neg V] [Mul V] [Div V]
  [LT V] [LE V] [BEq V] [Min V] [Max V] [DecidableLT V] [DecidableLE V]

/-- DETCH(mode, swap) (R251). -/
def detCh (m : Stereo) (swap : Bool) : Stereo :=
  if swap then
    match m with
    | .st => .st
    | .left => .right
    | .right => .left
    | .mid => .side
    | .side => .mid
  else m

/-- CHS(dc, sL, sR) (R252). -/
def chs (dc : Stereo) (sL sR : V) : List V :=
  match dc with
  | .left => [sL]
  | .right => [sR]
  | .mid => [(sL + sR) / 2]
  | .side => [(sL - sR) / 2]
  | .st => [sL, sR]

/-- RMS.TICK (R254), window length `w`. -/
def Tracker.tick (w : Nat) (tr : Tracker V) (x2 : V) : Tracker V :=
  { ring := tr.ring.set tr.pos x2, pos := (tr.pos + 1) % w, sum := tr.sum + x2 - tr.ring.getD tr.pos 0 }

/-- LEVEL (R256) of a tracker's sum, window length `w`. -/
def level (w : Nat) (sum : V)
    (C : Config V := by first | assumption | exact Sys2Proof.Config.standard) : V :=
  10 * C.log10 (max (max sum 0 / (w : V)) C.msFloor)

/-- SMOOTH(tau_ms, n) (R259). -/
def smooth (fs : Nat) (tauMs : V) (n : Nat)
    (C : Config V := by first | assumption | exact Sys2Proof.Config.standard) : V :=
  if tauMs ≤ 0 then 0 else C.exp (-(n : V) / (tauMs / 1000 * (fs : V)))

/-- KNEE(over, w) (R262). -/
def knee (ov w : V) : V :=
  let u := clamp ((ov + w / 2) / w) 0 1
  u * u * (3 - 2 * u)

/-- The bin of a value (R270). -/
def histBin (v : V)
    (C : Config V := by first | assumption | exact Sys2Proof.Config.standard) : Nat :=
  min (Config.histBins - 1) (C.floor (clamp v 0 Config.histMax)).toNat

/-- HIST.PUSH(h, v, d) (R270). -/
def Hist.push (h : Hist V) (v d : V) (C : Config V := by first | assumption | exact Sys2Proof.Config.standard) : Hist V :=
  { bins := (h.bins.map (· * d)).modify (histBin v) (· + 1), total := h.total * d + 1 }

/-- The walk of HIST.PCT (R271) from bin `i` with cumulative weight `c`. -/
def pctWalk (target : V) : Nat → V → List V → V
  | _, _, [] => Config.histMax
  | i, c, x :: xs =>
    if target ≤ c + x then (if x ≤ 0 then (i : V) else (i : V) + (target - c) / x) else pctWalk target (i + 1) (c + x) xs

/-- HIST.PCT(h, p) (R271, R272). -/
def Hist.pct (h : Hist V) (p : V) : V :=
  if 0 < h.total then pctWalk (clamp p 0 1 * h.total) 0 0 h.bins else Config.histMax

/-- The decay factor DECAY_SEL selects (R274). -/
def histDecay (slow : Bool)
    (C : Config V := by first | assumption | exact Sys2Proof.Config.standard) : V :=
  if slow then C.histDecaySlow else C.histDecayFast

/-- Reset the detector of a band (R268). -/
def Band.resetDetector (w : Nat) (b : Band V)
    (C : Config V := by first | assumption | exact Sys2Proof.Config.standard) : Band V :=
  { b with det := Detector.zero w, disp := { b.disp with curT := 0, curLevel := -120 } }

/-- The band's filter state zeroed (42_band_filter.md R229). -/
def Band.zeroFilter (b : Band V) : Band V := { b with fstate := fstateZero }

/-- The band's histogram cleared and its percentile registers set to the upper bound (R276). -/
def Band.clearHist (b : Band V) : Band V :=
  { b with hist := Hist.empty, disp := { b.disp with histP05 := 80, histP50 := 80, histP95 := 80 } }

/-- The three percentiles published (R278). -/
def Band.publishHist (b : Band V) : Band V :=
  { b with disp := { b.disp with histP05 := b.hist.pct (5 / 100), histP50 := b.hist.pct (50 / 100), histP95 := b.hist.pct (95 / 100) } }

/-- LEARN.STEP(b, lb, R) (R275); `ok` is the update's `publish_ok` draw. -/
def Band.learnStep (cg : GlobalRegs V) (lb ref : V) (ok : Bool) (b : Band V)
    (C : Config V := by first | assumption | exact Sys2Proof.Config.standard) : Band V :=
  if b.comm.learn && decide (C.levelFloorDb < lb) then
    let b1 := { b with hist := b.hist.push (clamp (ref - lb) 0 Config.histMax) (histDecay cg.decaySlow) }
    if ok then b1.publishHist else b1
  else b

/-- CUR_T and CUR_LEVEL published (R278). -/
def Band.publishLevel (ok : Bool) (b : Band V) : Band V :=
  if ok then { b with disp := { b.disp with curT := b.det.t, curLevel := b.det.ls } } else b

/-- The reference level R (R260); `sums` holds the baseline trackers' sums after the frame of the update. -/
def refLevel (w : Nat) (c : BandRegs V) (sums : PerMode V)
    (C : Config V := by first | assumption | exact Sys2Proof.Config.standard) : V :=
  if c.relThresh then level w (sums.get (detCh c.stereo c.sideSwap)) else 0

/-- The smoothing, overshoot and knee of an update of span `n` (R258, R261, R262). -/
def Band.envelope (fs : Nat) (n : Nat) (lb ref : V) (b : Band V)
    (C : Config V := by first | assumption | exact Sys2Proof.Config.standard) : Band V :=
  let a := smooth fs (if b.det.ls < lb then b.comm.attack else b.comm.release) n
  let ls := lb + a * (b.det.ls - lb)
  { b with det := { b.det with ls := ls, t := knee (ls - ref - b.comm.thresh) b.comm.knee } }

/-- The next `publish_ok` draw (20_memory.md R76): true where none is given. -/
def nextDraw (draws : List Bool) : Bool := draws.headD true

/-- UPDATE(i, n, push) (R269). -/
def Band.update (cg : GlobalRegs V) (fs w n : Nat) (push ok : Bool) (sums : PerMode V) (b : Band V)
    (C : Config V := by first | assumption | exact Sys2Proof.Config.standard) : Band V :=
  let lb := level w b.det.rms.sum
  let ref := refLevel w b.comm sums
  let b1 := (b.envelope fs n lb ref).publishLevel ok
  if push then b1.learnStep cg lb ref ok else b1

/-- The side filter over the detector's samples of one frame, and the sum of the outputs' squares (R257, R269). -/
def sideTick (c : Section V) (st : PerSlot (SecState V)) (xs : List V) : V × PerSlot (SecState V) :=
  match xs with
  | [] => (0, st)
  | [x0] =>
    let r0 := tdf2Tick c st.s0 x0
    (0 + r0.1 * r0.1, { st with s0 := r0.2 })
  | x0 :: x1 :: _ =>
    let r0 := tdf2Tick c st.s0 x0
    let r1 := tdf2Tick c st.s1 x1
    (0 + r0.1 * r0.1 + r1.1 * r1.1, ⟨r0.2, r1.2⟩)

/-- The side section of a band; before the first design there is none, and a section of zeros stands in (no sub-block runs
before PREPARE). -/
def Band.sideSection (b : Band V) : Section V := b.coefs.sideSec.getD ⟨0, 0, 0, 1, 0, 0⟩

/-- Side filter and RMS tracker on one sidechain frame (R253, R254, R257). -/
def Band.detTick (w : Nat) (b : Band V) (side : V × V) : Band V :=
  let xs := chs (detCh b.comm.stereo b.comm.sideSwap) side.1 side.2
  let r := sideTick b.sideSection b.det.sstate xs
  { b with det := { b.det with sstate := r.2, rms := b.det.rms.tick w (r.1 / (xs.length : V)) } }

/-- DETECT in HQ mode (R265, R269) over frames paired with the baseline sums after them: the factors, and the draws left. -/
def detectHq (cg : GlobalRegs V) (fs w : Nat) (draws : List Bool) (b : Band V) (fr : List ((V × V) × PerMode V))
    (C : Config V := by first | assumption | exact Sys2Proof.Config.standard) :
    List V × List Bool × Band V :=
  match fr with
  | [] => ([], draws, b)
  | f :: rest =>
    let b1 := (b.detTick w f.1).update cg fs w 1 rest.isEmpty (nextDraw draws) f.2
    let z := detectHq cg fs w draws.tail b1 rest C
    (b1.det.t :: z.1, z.2)

/-- The ticks of DETECT in normal mode (R264, R269). -/
def detectTicks (w : Nat) (b : Band V) (fr : List ((V × V) × PerMode V)) : Band V :=
  fr.foldl (fun b f => b.detTick w f.1) b

/-- DETECT in normal mode (R264, R269): one update of the sub-block's span with the sums after its last frame. -/
def detectNormal (cg : GlobalRegs V) (fs w : Nat) (draws : List Bool) (b : Band V) (fr : List ((V × V) × PerMode V))
    (C : Config V := by first | assumption | exact Sys2Proof.Config.standard) :
    List V × List Bool × Band V :=
  match fr.getLast? with
  | none => ([], draws, b)
  | some f =>
    let b1 := (detectTicks w b fr).update cg fs w fr.length true (nextDraw draws) f.2
    (List.replicate fr.length b1.det.t, draws.tail, b1)

/-- DETECT(b) (R250, R269). -/
def detect (cg : GlobalRegs V) (fs w : Nat) (draws : List Bool) (b : Band V) (fr : List ((V × V) × PerMode V))
    (C : Config V := by first | assumption | exact Sys2Proof.Config.standard) :
    List V × List Bool × Band V :=
  if cg.hq then detectHq cg fs w draws b fr else detectNormal cg fs w draws b fr

/-- When a band's detector runs (R267). -/
def Band.detects (b : Band V) : Bool := b.comm.active && b.comm.dynOn

/-- Step 2 of SUBBLOCK (45_controller.md R348): DETECT for each band whose detector runs, in ascending index. Answers the
factors of every band's frames (none for a band whose detector does not run), the draws left, and the bands. -/
def detectAll (cg : GlobalRegs V) (fs w : Nat) (draws : List Bool) (bands : Vector (Band V) Config.numBands)
    (fr : List ((V × V) × PerMode V))
    (C : Config V := by first | assumption | exact Sys2Proof.Config.standard) : (List (List V) × List Bool) × Vector (Band V) Config.numBands :=
  accV (fun _ a b =>
    if b.detects then
      let r := detect cg fs w a.2 b fr
      ((a.1 ++ [r.1], r.2.1), r.2.2)
    else ((a.1 ++ [[]], a.2), b)) ([], draws) bands

/-- The square a baseline tracker is given in a frame (R266): the mean square of its channel's samples. -/
def baselineSquare (dc : Stereo) (sL sR : V) : V :=
  (chs dc sL sR).foldl (fun acc x => acc + x * x) 0 / ((chs dc sL sR).length : V)

/-- The baseline trackers on one sidechain frame (R266). -/
def baselineTick (w : Nat) (base : PerMode (Tracker V)) (side : V × V) : PerMode (Tracker V) :=
  PerMode.of fun dc => (base.get dc).tick w (baselineSquare dc side.1 side.2)

/-- Step 1 of SUBBLOCK (45_controller.md R348, R266): the trackers after the sub-block, and every frame's sidechain pair with
the sums after it (their LEVEL is `base_lv[dc][i]`). -/
def baselineRun (w : Nat) : PerMode (Tracker V) → List (V × V) → List ((V × V) × PerMode V) × PerMode (Tracker V)
  | base, [] => ([], base)
  | base, s :: rest =>
    let b1 := baselineTick w base s
    let z := baselineRun w b1 rest
    ((s, PerMode.of fun dc => (b1.get dc).sum) :: z.1, z.2)

/-- Stop learning (R277): both copies of THRESH and KNEE from the histogram, unless it is empty. -/
def Band.stopLearning (b : Band V) (C : Config V := by first | assumption | exact Sys2Proof.Config.standard) : Band V :=
  if 0 < b.hist.total then
    let th := clamp (C.learnMarginDb - b.hist.pct (50 / 100)) C.threshMin C.threshMax
    let kn := clamp (b.hist.pct (95 / 100) - b.hist.pct (5 / 100)) C.kneeMin C.kneeMax
    { b with comm := { b.comm with thresh := th, knee := kn }, staged := { b.staged with thresh := th, knee := kn } }
  else b

end Sys2Proof.Machine
end

