-- ==== Sys2Proof/Machine/Correction.lean ====
section
/-! DEFINITION. The correction stages (44_structure_correction.md R304 to R317): targets, tap design, ticks, history reset. -/

namespace Sys2Proof.Machine

open Arith

variable {V : Type} [Zero V] [One V] [NatCast V] [Add V] [Sub V] [Neg V] [Mul V] [Div V]
  [LT V] [LE V] [BEq V] [Min V] [Max V] [DecidableLT V] [DecidableLE V]

/-- w_k = pi * k / M (R306). -/
def gridFreq (M k : Nat)
    (C : Config V := by first | assumption | exact Sys2Proof.Config.standard) : V := C.pi * (k : V) / (M : V)

/-- HANN(n) (R307). -/
def hann (M n : Nat)
    (C : Config V := by first | assumption | exact Sys2Proof.Config.standard) : V :=
  (1 - C.cos (C.pi * (n : V) / (M : V))) / 2

/-- The terms 2 * Re(T[k] * exp(j * pi * k * (n - M) / M)) of the interior points k, k+1, ... (R306). -/
def fsdInner (M n k : Nat) (ts : List (Cpx V))
    (C : Config V := by first | assumption | exact Sys2Proof.Config.standard) : List V :=
  match ts with
  | [] => []
  | c :: cs => 2 * (c.mul (.cis (C.pi * (k : V) * ((n : V) - (M : V)) / (M : V)))).re :: fsdInner M n (k + 1) cs C

/-- The terms of one tap of FSD after that of target 0 (R306): `mid` are targets 1 to M-1, `tM` is target M. Laws/Work.lean
has their number. -/
def fsdTerms (M : Nat) (mid : List (Cpx V)) (tM : Cpx V) (n : Nat)
    (C : Config V := by first | assumption | exact Sys2Proof.Config.standard) : List V :=
  fsdInner M n 1 mid ++ [tM.re * C.cos (C.pi * ((n : V) - (M : V)))]

/-- One tap of FSD (R306): its terms added in turn to that of target 0, `t0`. -/
def fsdTap (M : Nat) (t0 : Cpx V) (mid : List (Cpx V)) (tM : Cpx V) (n : Nat)
    (C : Config V := by first | assumption | exact Sys2Proof.Config.standard) : V :=
  hann M n * (fsdTerms M mid tM n).foldl (· + ·) t0.re / (2 * (M : V))

/-- FSD (R306): 2M + 1 taps from M + 1 targets. -/
def fsd (M : Nat) (ts : List (Cpx V)) (C : Config V := by first | assumption | exact Sys2Proof.Config.standard) : List V :=
  (List.range (2 * M + 1)).map fun n =>
    fsdTap M (ts.getD 0 Cpx.one) (ts.drop 1).dropLast (ts.getD M Cpx.one) n

/-- How many terms FSD adds up for one tap set, target 0's term among those of each tap (45_controller.md R364). -/
def fsdTermCount (M : Nat) (ts : List (Cpx V)) (C : Config V := by first | assumption | exact Sys2Proof.Config.standard) : Nat :=
  ((List.range (2 * M + 1)).map fun n => 1 + (fsdTerms M (ts.drop 1).dropLast (ts.getD M Cpx.one) n).length).sum

/-- The members of a lane in ascending index (R303). -/
def laneMembers (bands : Vector (Band V) Config.numBands) (m : Stereo) : List (Band V) := bands.toList.filter (·.member m)

/-- |IDEAL| / max(|DIG|, CORR_EPS) of one section (R308). -/
def matchedFactor (w : V) (p : Spec V × Section V)
    (C : Config V := by first | assumption | exact Sys2Proof.Config.standard) : V :=
  (ideal p.1 w).abs / max (dig p.2 w).abs C.corrEps

/-- IDEAL / D of one section (R309). -/
def mixedFactor (w : V) (p : Spec V × Section V)
    (C : Config V := by first | assumption | exact Sys2Proof.Config.standard) : Cpx V :=
  let d := dig p.2 w
  (ideal p.1 w).div (if C.corrEps ≤ d.abs then d else .ofReal C.corrEps)

/-- The sections of a lane with their specs, over the members (R308). -/
def laneSections (ms : List (Band V)) : List (Spec V × Section V) := ms.flatMap fun b => b.coefs.baseSpecs.zip b.coefs.baseSecs

/-- The frozen pair (gain, q) of a band (R310, R317). -/
def Band.frozenPair (b : Band V) : V × V := morph b.comm b.coefs.tFrozen

/-- The specs of a band at its frozen factor (R310). -/
def Band.frozenSpecs (fs : Nat) (b : Band V)
    (C : Config V := by first | assumption | exact Sys2Proof.Config.standard) : List (Spec V) :=
  specs b.comm.ftype b.comm.freq b.frozenPair.1 b.frozenPair.2 b.comm.order fs

/-- Clamp of a target (R311). -/
def clampTarget (c : Cpx V) (C : Config V := by first | assumption | exact Sys2Proof.Config.standard) : Cpx V :=
  if C.corrGainMax < c.abs then c.scale (C.corrGainMax / c.abs) else c

/-- The MATCHED target at w (R308, R311). -/
def matchedTarget (ms : List (Band V)) (w : V)
    (C : Config V := by first | assumption | exact Sys2Proof.Config.standard) : Cpx V :=
  clampTarget (.ofReal ((laneSections ms).foldl (fun acc p => acc * matchedFactor w p) 1))

/-- The MIXED target at w (R309, R311). -/
def mixedTarget (ms : List (Band V)) (w : V)
    (C : Config V := by first | assumption | exact Sys2Proof.Config.standard) : Cpx V :=
  clampTarget ((laneSections ms).foldl (fun acc p => acc.mul (mixedFactor w p)) Cpx.one)

/-- The LINEAR target at w (R310): not clamped. -/
def linearTarget (fs : Nat) (ms : List (Band V)) (w : V)
    (C : Config V := by first | assumption | exact Sys2Proof.Config.standard) : Cpx V :=
  .ofReal ((ms.flatMap fun b => b.frozenSpecs fs).foldl (fun acc p => acc * (ideal p w).abs) 1)

/-- The target of an effective structure at w; only the correcting structures have one. -/
def corrTarget (es : Structure) (fs : Nat) (ms : List (Band V)) (w : V)
    (C : Config V := by first | assumption | exact Sys2Proof.Config.standard) : Cpx V :=
  match es with
  | .matched => matchedTarget ms w
  | .mixed => mixedTarget ms w
  | .linear => linearTarget fs ms w
  | _ => Cpx.one

/-- The M + 1 targets of one lane (R306, R308 to R312). -/
def laneTargets (es : Structure) (fs : Nat) (ms : List (Band V))
    (C : Config V := by first | assumption | exact Sys2Proof.Config.standard) : List (Cpx V) :=
  let M := es.corrM C
  (List.range (M + 1)).map fun k => corrTarget es fs ms (gridFreq M k)

/-- The taps of one lane (R306, R308 to R312). -/
def laneTaps (es : Structure) (fs : Nat) (ms : List (Band V))
    (C : Config V := by first | assumption | exact Sys2Proof.Config.standard) : List V :=
  fsd (es.corrM C) (laneTargets es fs ms)

/-- Taps of one slot of a group recomputed (R313); the history is kept (R316). -/
def designSlot (es : Structure) (fs : Nat) (bands : Vector (Band V) Config.numBands) (m : Stereo) (c : CorrSlot V)
    (C : Config V := by first | assumption | exact Sys2Proof.Config.standard) : CorrSlot V :=
  { c with taps := laneTaps es fs (laneMembers bands m) }

/-- Taps of a group recomputed if it is in use (R313). Both slots of ST have the same members and the same taps (R312). -/
def designGroup (es : Structure) (fs : Nat) (bands : Vector (Band V) Config.numBands) (corr : PerGroup (PerSlot (CorrSlot V)))
    (g : Group) (C : Config V := by first | assumption | exact Sys2Proof.Config.standard) : PerSlot (CorrSlot V) :=
  if groupInUse bands g then
    ⟨designSlot es fs bands (g.memberMode .s0) (corr.get g).s0, designSlot es fs bands (g.memberMode .s1) (corr.get g).s1⟩
  else corr.get g

/-- Taps of every group in use recomputed (R313, 45_controller.md R339). -/
def designCorr (es : Structure) (fs : Nat) (bands : Vector (Band V) Config.numBands) (corr : PerGroup (PerSlot (CorrSlot V)))
    (C : Config V := by first | assumption | exact Sys2Proof.Config.standard) :
    PerGroup (PerSlot (CorrSlot V)) :=
  ⟨designGroup es fs bands corr .st, designGroup es fs bands corr .lr, designGroup es fs bands corr .ms⟩

/-- In LINEAR each member freezes its factor and publishes the frozen pair (R317, 42_band_filter.md R237). An active,
unbypassed band is a member of a lane of a group in use. -/
def Band.freeze (b : Band V) : Band V :=
  if b.comm.active && !b.comm.bypass then
    let b1 := { b with coefs := { b.coefs with tFrozen := if b.comm.dynOn then b.det.t else 0 } }
    { b1 with disp := { b1.disp with curGain := b1.frozenPair.1, curQ := b1.frozenPair.2 } }
  else b

/-- A history zeroed (R316), at the length of 10_state.md R37. -/
def CorrSlot.zeroHist (c : CorrSlot V)
    (C : Config V := by first | assumption | exact Sys2Proof.Config.standard) : CorrSlot V :=
  { c with hist := List.replicate C.corrHistLen 0, cpos := 0 }

/-- The histories of a group zeroed (R316). -/
def zeroGroupHist (p : PerSlot (CorrSlot V))
    (C : Config V := by first | assumption | exact Sys2Proof.Config.standard) : PerSlot (CorrSlot V) :=
  ⟨p.s0.zeroHist, p.s1.zeroHist⟩

/-- All correction histories zeroed (R316). -/
def zeroCorrHist (c : PerGroup (PerSlot (CorrSlot V)))
    (C : Config V := by first | assumption | exact Sys2Proof.Config.standard) : PerGroup (PerSlot (CorrSlot V)) :=
  ⟨zeroGroupHist c.st, zeroGroupHist c.lr, zeroGroupHist c.ms⟩

/-- A ring from position `pos` backwards: its n-th element is `hist[(pos - n) mod H]` (20_memory.md R66). -/
def ringBack (hist : List V) (pos : Nat) : List V := (hist.take (pos + 1)).reverse ++ (hist.drop (pos + 1)).reverse

/-- CORR.TICK (R314, R315): in filter mode the sum of taps[n] * hist[(pos - n) mod H]; in delay mode hist[(pos - M) mod H]. -/
def corrTick (filter : Bool) (M : Nat) (c : CorrSlot V) (x : V) : V × CorrSlot V :=
  let h := c.hist.set c.cpos x
  let back := ringBack h c.cpos
  (if filter then (c.taps.zipWith (· * ·) back).foldl (· + ·) 0 else back.getD M 0,
   { c with hist := h, cpos := (c.cpos + 1) % h.length })

/-- CORR.TICK over the samples of a sub-block. -/
def corrRun (filter : Bool) (M : Nat) : CorrSlot V → List V → List V × CorrSlot V
  | c, [] => ([], c)
  | c, x :: xs =>
    let r := corrTick filter M c x
    let z := corrRun filter M r.2 xs
    (r.1 :: z.1, z.2)

end Sys2Proof.Machine
end

