-- ==== Sys2Proof/Machine/SubBlock.lean ====
section
/-! DEFINITION. One sub-block (45_controller.md R348 to R351, R360): baselines, detectors, solo filter, group stages, post
stage. -/

namespace Sys2Proof.Machine

open Arith

/-- The two channels of the main path over a sub-block. -/
abbrev Pair (V : Type := Rat) := List V × List V

variable {V : Type} [Zero V] [One V] [NatCast V] [Add V] [Sub V] [Neg V] [Mul V] [Div V]
  [LT V] [LE V] [BEq V] [Min V] [Max V] [DecidableLT V] [DecidableLE V]

/-- The mode of a sub-block (R349). -/
def State.mode (s : State V) : Mode :=
  if !s.cg.effectOn then .off else if s.soloSec.isSome then .solo else .normal

/-- Mid/side encode (44_structure_correction.md R302). -/
def msEncode (x : Pair V) : Pair V := (x.1.zipWith (fun l r => (l + r) / 2) x.2, x.1.zipWith (fun l r => (l - r) / 2) x.2)

/-- Mid/side decode (44_structure_correction.md R302). -/
def msDecode (x : Pair V) : Pair V := (x.1.zipWith (fun m v => m + v) x.2, x.1.zipWith (fun m v => m - v) x.2)

/-- The matrix around a group stage: MS works on mid and side. -/
def groupIn (g : Group) (x : Pair V) : Pair V := if g = .ms then msEncode x else x

/-- Back from a group's channels to left and right. -/
def groupOut (g : Group) (x : Pair V) : Pair V := if g = .ms then msDecode x else x

/-- One slot of a group stage (44_structure_correction.md R298, 45_controller.md R349): lane, correction stage, static
compensation. -/
def slotStage (mode : Mode) (tseqs : List (List V)) (g : Group) (k : Slot) (s : State V) (xs : List V)
    (C : Config V := by first | assumption | exact Sys2Proof.Config.standard) :
    List V × State V :=
  let es := effStruct s.cg
  let lane := if mode = .normal then laneRun es s.fs (g.memberMode k) k tseqs s.bands xs else (xs, s.bands)
  let cor :=
    if es.correcting then corrRun (mode == .normal) (es.corrM C) ((s.corr.get g).get k) lane.1
    else (lane.1, (s.corr.get g).get k)
  let out :=
    if mode = .normal ∧ s.cg.sgcOn then cor.1.map (· * s.sgc.get (g.memberMode k)) else cor.1
  (out, { s with bands := lane.2, corr := s.corr.set g ((s.corr.get g).set k cor.2) })

/-- The group stage (44_structure_correction.md R298); a group not in use is skipped (R297). -/
def groupStage (mode : Mode) (tseqs : List (List V)) (g : Group) (s : State V) (x : Pair V)
    (C : Config V := by first | assumption | exact Sys2Proof.Config.standard) : Pair V × State V :=
  if groupInUse s.bands g then
    let y := groupIn g x
    let r0 := slotStage mode tseqs g .s0 s y.1
    let r1 := slotStage mode tseqs g .s1 r0.2 y.2
    (groupOut g (r0.1, r1.1), r1.2)
  else (x, s)

/-- The solo routing of one frame (R360) for the soloed band's stereo mode. -/
def soloFrame (c : Section V) (m : Stereo) (st : PerSlot (SecState V)) (l r : V) : (V × V) × PerSlot (SecState V) :=
  match m with
  | .st =>
    let a := tdf2Tick c st.s0 l
    let b := tdf2Tick c st.s1 r
    ((a.1, b.1), ⟨a.2, b.2⟩)
  | .left =>
    let a := tdf2Tick c st.s0 l
    ((a.1, 0), { st with s0 := a.2 })
  | .right =>
    let b := tdf2Tick c st.s1 r
    ((0, b.1), { st with s1 := b.2 })
  | .mid =>
    let a := tdf2Tick c st.s0 ((l + r) / 2)
    ((a.1, a.1), { st with s0 := a.2 })
  | .side =>
    let b := tdf2Tick c st.s1 ((l - r) / 2)
    ((b.1, -b.1), { st with s1 := b.2 })

/-- The solo filter over a sub-block (R360). -/
def soloRun (c : Section V) (m : Stereo) : PerSlot (SecState V) → List V → List V → Pair V × PerSlot (SecState V)
  | st, l :: ls, r :: rs =>
    let a := soloFrame c m st l r
    let z := soloRun c m a.2 ls rs
    ((a.1.1 :: z.1.1, a.1.2 :: z.1.2), z.2)
  | st, _, _ => (([], []), st)

/-- The stereo mode of the soloed band; ST where no band is soloed. -/
def State.soloMode (s : State V) : Stereo :=
  if h : s.cg.solo < Config.numBands then s.bands[s.cg.solo].comm.stereo else .st

/-- Step 4 of SUBBLOCK (R348, R360). -/
def soloStage (mode : Mode) (s : State V) (x : Pair V) : Pair V × State V :=
  match mode, s.soloSec with
  | .solo, some c =>
    let r := soloRun c s.soloMode s.soloState x.1 x.2
    (r.1, { s with soloState := r.2 })
  | _, _ => (x, s)

/-- `acc` and after it the squares of every frame's pair, added in turn (R351). -/
def pairEnergy (acc : V) (x : Pair V) : V := (x.1.zip x.2).foldl (fun a p => a + (p.1 * p.1 + p.2 * p.2)) acc

/-- The output gain (R351): AGAIN and TRIM, negated by PHASE_FLIP. -/
def State.outGain (s : State V) (C : Config V := by first | assumption | exact Sys2Proof.Config.standard) : V :=
  if s.cg.phaseFlip then -(lin s.again * lin s.cg.trim) else lin s.again * lin s.cg.trim

/-- The post stage (R351), NORMAL only. -/
def postStage (mode : Mode) (s : State V) (x : Pair V)
    (C : Config V := by first | assumption | exact Sys2Proof.Config.standard) : Pair V × State V :=
  if mode = .normal then
    let s1 :=
      if s.cg.measure then
        { s with meas := { s.meas with postSum := pairEnergy s.meas.postSum x, postN := s.meas.postN + 2 * x.1.length } }
      else s
    ((x.1.map (s.outGain * ·), x.2.map (s.outGain * ·)), s1)
  else (x, s)

/-- The sidechain pairs of a sub-block. -/
def sidePairs (fr : List (Frame V)) : List (V × V) := fr.map fun f => (f.sL, f.sR)

/-- The main pairs of a sub-block. -/
def mainPairs (fr : List (Frame V)) : Pair V := (fr.map (·.mL), fr.map (·.mR))

/-- Steps 1 and 2 of SUBBLOCK (R348): baselines and detectors, in every mode. Answers the factors of the bands' frames. -/
def detectStage (s : State V) (fr : List (Frame V))
    (C : Config V := by first | assumption | exact Sys2Proof.Config.standard) : List (List V) × State V :=
  let bl := baselineRun s.w s.base (sidePairs fr)
  let r := detectAll s.cg s.fs s.w s.io.publish s.bands bl.1
  (r.1.1, { s with base := bl.2, bands := r.2, io := { s.io with publish := r.1.2 } })

/-- Steps 4 to 6 of SUBBLOCK (R348): solo filter, the group stages ST, LR, MS, post stage. -/
def mainStage (tseqs : List (List V)) (s : State V) (x : Pair V)
    (C : Config V := by first | assumption | exact Sys2Proof.Config.standard) : Pair V × State V :=
  let mode := s.mode
  let a := soloStage mode s x
  let b := groupStage mode tseqs .st a.2 a.1
  let c := groupStage mode tseqs .lr b.2 b.1
  let d := groupStage mode tseqs .ms c.2 c.1
  postStage mode d.2 d.1

/-- SUBBLOCK (R348). -/
def subblock (s : State V) (fr : List (Frame V))
    (C : Config V := by first | assumption | exact Sys2Proof.Config.standard) : List (V × V) × State V :=
  let d := detectStage s fr
  let m := mainStage d.1 d.2 (mainPairs fr)
  (m.1.1.zip m.1.2, m.2)

end Sys2Proof.Machine
end

