-- ==== Sys2Proof/Machine/Commit.lean ====
section
/-! DEFINITION. The commit and everything it recomputes (45_controller.md R333 to R340, R352 to R360). -/

namespace Sys2Proof.Machine

open Arith

variable {V : Type} [Zero V] [One V] [NatCast V] [Add V] [Sub V] [Neg V] [Mul V] [Div V]
  [LT V] [LE V] [BEq V] [Min V] [Max V] [DecidableLT V] [DecidableLE V]

/-! ### Static compensation and solo -/

/-- A band's factor in its mode's compensation (R356). -/
def Band.sgcFactor (b : Band V)
    (C : Config V := by first | assumption | exact Sys2Proof.Config.standard) : V :=
  lin (-(C.sgcEst b.comm.ftype b.comm.freq b.comm.gain b.comm.q))

/-- `sgc[m]` (R356): the product over the active, unbypassed bands of mode m. -/
def sgcOf (bands : Vector (Band V) Config.numBands) (m : Stereo)
    (C : Config V := by first | assumption | exact Sys2Proof.Config.standard) : V :=
  (laneMembers bands m).foldl (fun acc b => acc * b.sgcFactor) 1

/-- The solo section of committed registers (R360): none for SOLO = NONE or an inactive band. -/
def soloSection (cg : GlobalRegs V) (bands : Vector (Band V) Config.numBands) (fs : Nat)
    (C : Config V := by first | assumption | exact Sys2Proof.Config.standard) : Option (Section V) :=
  if h : cg.solo < Config.numBands then
    let c := bands[cg.solo].comm
    if c.active then
      let m := C.soloMap c.ftype c.freq c.q
      some (bandPassSection (clamp m.1 C.freqMin C.freqMax) m.2 fs)
    else none
  else none

/-! ### RECOMPUTE -/

/-- The band's part of RECOMPUTE (R339). The sections being run follow the base design of a static band (10_state.md R30). -/
def Band.recompute (fs : Nat) (b : Band V)
    (C : Config V := by first | assumption | exact Sys2Proof.Config.standard) : Band V :=
  let c := b.comm
  let sp := specs c.ftype c.freq c.gain c.q c.order fs
  let secs := sp.map fun p => blt p
  { b with
    coefs := { b.coefs with
      baseSpecs := sp
      baseSecs := secs
      sideSec := some (bandPassSection c.sideFreq c.sideQ fs)
      curSecs := if c.dynOn then b.coefs.curSecs else secs }
    disp := { b.disp with
      nsec := secs.length
      curGain := if c.dynOn then b.disp.curGain else c.gain
      curQ := if c.dynOn then b.disp.curQ else c.q } }

/-- The part of RECOMPUTE that brings the bands in line: every band's designs, and in LINEAR the frozen factors. -/
def recomputeBands (es : Structure) (fs : Nat) (bands : Vector (Band V) Config.numBands)
    (C : Config V := by first | assumption | exact Sys2Proof.Config.standard) : Vector (Band V) Config.numBands :=
  let b1 := mapV (fun b => Band.recompute fs b) bands
  if es = .linear then mapV (fun b => b.freeze) b1 else b1

/-- RECOMPUTE (R339). -/
def State.recompute (s : State V) (C : Config V := by first | assumption | exact Sys2Proof.Config.standard) : State V :=
  let es := effStruct s.cg
  let bands := recomputeBands es s.fs s.bands
  { s with
    bands := bands
    sgc := PerMode.of fun m => sgcOf bands m
    soloSec := soloSection s.cg bands s.fs
    corr := if es.correcting then designCorr es s.fs bands s.corr else s.corr }

/-! ### The commit's steps -/

/-- Class-S step (R334). -/
def State.commitS (s : State V) (C : Config V := by first | assumption | exact Sys2Proof.Config.standard) : State V :=
  let cg := { s.cg with struct := s.pg.struct, zeroLat := s.pg.zeroLat, lookahead := s.pg.lookahead }
  { s with
    pendS := false
    cg := cg
    fifo := if cg.zeroLat = s.cg.zeroLat then s.fifo else Fifo.zero s.sublen
    corr := zeroCorrHist s.corr
    bands := mapV Band.zeroFilter s.bands
    la := if laFrames cg s.fs = laFrames s.cg s.fs then s.la else LaLine.zero (laFrames cg s.fs) }

/-- The band's part of the class-G step (R335). -/
def Band.commitG (w : Nat) (b : Band V)
    (C : Config V := by first | assumption | exact Sys2Proof.Config.standard) : Band V :=
  let b1 := { b with comm := { b.comm with active := b.staged.active, stereo := b.staged.stereo } }
  if (b.staged.active && !b.comm.active) || b.staged.stereo != b.comm.stereo then b1.zeroFilter.resetDetector w else b1

/-- A group's correction history zeroed when the group comes into use (R335, 44_structure_correction.md R316). -/
def groupComesIn (old new : Vector (Band V) Config.numBands) (corr : PerGroup (PerSlot (CorrSlot V))) (g : Group)
    (C : Config V := by first | assumption | exact Sys2Proof.Config.standard) :
    PerSlot (CorrSlot V) :=
  if groupInUse new g && !groupInUse old g then zeroGroupHist (corr.get g) else corr.get g

/-- Class-G step (R335). -/
def State.commitG (s : State V) (C : Config V := by first | assumption | exact Sys2Proof.Config.standard) : State V :=
  let bands := mapV (fun b => Band.commitG s.w b) s.bands
  { s with
    pendG := false
    bands := bands
    corr := ⟨s.corr.st, groupComesIn s.bands bands s.corr .lr, groupComesIn s.bands bands s.corr .ms⟩ }

/-- The band's part of the class-B step (R336). -/
def Band.commitB (b : Band V) : Band V :=
  let b1 := { b with comm := { b.comm with bypass := b.staged.bypass } }
  if b.comm.bypass && !b.staged.bypass then b1.zeroFilter else b1

/-- Class-B step (R336). -/
def State.commitB (s : State V) : State V :=
  { s with
    pendB := false
    bands := mapV Band.commitB s.bands
    soloState := if s.cg.solo = s.pg.solo then s.soloState else ⟨SecState.zero, SecState.zero⟩
    cg := { s.cg with solo := s.pg.solo, effectOn := s.pg.effectOn } }

/-- The class-N registers of a band transferred (10_state.md R21, R29). -/
def BandRegs.takeN (comm staged : BandRegs V) : BandRegs V :=
  { staged with active := comm.active, bypass := comm.bypass, stereo := comm.stereo }

/-- The class-N step of one band (R337), once its DIRTY flag was found set. -/
def Band.commitN (w : Nat) (b : Band V)
    (C : Config V := by first | assumption | exact Sys2Proof.Config.standard) : Band V :=
  let c := b.comm.takeN b.staged
  let b0 := { b with dirty := false, comm := c }
  let b1 := if c.ftype ≠ b.comm.ftype ∨ effOrder c.ftype c.order ≠ effOrder b.comm.ftype b.comm.order then b0.zeroFilter else b0
  let b2 := if c.dynOn && !b.comm.dynOn then b1.resetDetector w else b1
  let b3 := if c.dynOn then b2 else { b2 with det := { b2.det with t := 0 }, disp := { b2.disp with curT := 0 } }
  if c.learn && !b.comm.learn then b3.clearHist
  else if !c.learn && b.comm.learn then b3.stopLearning
  else b3

/-- The class-N steps of the dirty bands (R333). -/
def State.commitBands (s : State V) (C : Config V := by first | assumption | exact Sys2Proof.Config.standard) : State V :=
  { s with bands := mapV (fun b => if b.dirty then b.commitN s.w else b) s.bands }

/-- The class-N global registers transferred (10_state.md R25, R29). -/
def GlobalRegs.takeN (cg pg : GlobalRegs V) : GlobalRegs V :=
  { pg with struct := cg.struct, zeroLat := cg.zeroLat, lookahead := cg.lookahead, solo := cg.solo, effectOn := cg.effectOn }

/-- The release of the measure gesture (R358): AGAIN after it. -/
def Meas.release (m : Meas V) (again : V) (C : Config V := by first | assumption | exact Sys2Proof.Config.standard) : V :=
  if 0 < m.preN ∧ 0 < m.postN ∧ 0 < m.preSum ∧ 0 < m.postSum then
    clamp (10 * C.log10 (m.preSum / m.preN) - 10 * C.log10 (m.postSum / m.postN)) C.trimMin C.trimMax
  else again

/-- All 21 RMS trackers re-sized to `w` and zeroed (43_detector_histogram.md R255); Ls, t and the side filter states rest. -/
def State.resizeTrackers (s : State V) (w : Nat) : State V :=
  { s with
    w := w
    base := PerMode.of fun _ => Tracker.zero w
    bands := mapV (fun b => { b with det := { b.det with rms := Tracker.zero w } }) s.bands }

/-- The global class-N step (R338), once GDIRTY was found set. -/
def State.commitGlobal (s : State V) (C : Config V := by first | assumption | exact Sys2Proof.Config.standard) : State V :=
  let cg := s.cg.takeN s.pg
  let s1 := if cg.rmsMs == s.cg.rmsMs then s else s.resizeTrackers (rmsWindow cg s.fs)
  { s1 with
    gdirty := false
    cg := cg
    meas := if cg.measure && !s.cg.measure then Meas.zero else s.meas
    again := if !cg.measure && s.cg.measure then s.meas.release s.again else s.again }

/-- The structural part of COMMIT (R333, R340): at most one of S, G, B, in that priority. -/
def State.commitStructural (s : State V)
    (C : Config V := by first | assumption | exact Sys2Proof.Config.standard) : State V :=
  if s.pendS then s.commitS else if s.pendG then s.commitG else if s.pendB then s.commitB else s

/-- Whether COMMIT finds any flag set (R333). -/
def State.anyFlag (s : State V) : Bool :=
  s.pendS || s.pendG || s.pendB || s.gdirty || s.bands.toList.any (·.dirty)

/-- COMMIT (R333). -/
def State.commit (s : State V) (C : Config V := by first | assumption | exact Sys2Proof.Config.standard) : State V :=
  if s.anyFlag then
    let s1 := s.commitStructural.commitBands
    let s2 := if s.gdirty then s1.commitGlobal else s1
    s2.recompute.updateLatency
  else s

/-! ### The commit's work

R364 bounds the work of a commit. `State.commitSteps` counts it out, each design of a band and each tap set a step of its own;
Laws/Work.lean shows that COMMIT is the run of these steps, and the bounds. -/

/-- A step of a commit (45_controller.md R333, R339, R364). -/
inductive CommitStep where
  /-- The class-S step (R334). -/
  | classS
  /-- The class-G step (R335). -/
  | classG
  /-- The class-B step (R336). -/
  | classB
  /-- The class-N step of one band (R337). -/
  | bandN (j : Fin Config.numBands)
  /-- The global class-N step (R338). -/
  | globalN
  /-- One band's designs in RECOMPUTE (R339). -/
  | design (j : Fin Config.numBands)
  /-- What RECOMPUTE does once, between the designs and the tap sets (R339). -/
  | shared
  /-- One tap set designed in RECOMPUTE (R339). -/
  | tapSet (g : Group) (k : Slot)
  /-- LATENCY brought up to date (R333, R352, R353). -/
  | latency
  deriving DecidableEq, Repr

/-- The structural steps, of which one commit takes at most one (45_controller.md R340). -/
def CommitStep.isStructural : CommitStep → Bool
  | .classS | .classG | .classB => true
  | _ => false

/-- The class-N steps of the bands. -/
def CommitStep.isBand : CommitStep → Bool
  | .bandN _ => true
  | _ => false

/-- The designs of the bands. -/
def CommitStep.isDesign : CommitStep → Bool
  | .design _ => true
  | _ => false

/-- The tap sets. -/
def CommitStep.isTapSet : CommitStep → Bool
  | .tapSet _ _ => true
  | _ => false

/-- The tap sets a RECOMPUTE of this state designs (R339): in a correcting structure, both of each group in use. -/
def State.tapSets (s : State V) : List (Group × Slot) :=
  if (effStruct s.cg).correcting then
    ([Group.st, .lr, .ms].filter (groupInUse s.bands)).flatMap fun g => [(g, .s0), (g, .s1)]
  else []

/-- The part of RECOMPUTE between the designs and the tap sets (R339): the frozen factors in LINEAR, the compensation, solo. -/
def State.recomputeShared (s : State V)
    (C : Config V := by first | assumption | exact Sys2Proof.Config.standard) : State V :=
  let bands := if effStruct s.cg = .linear then mapV (fun b => b.freeze) s.bands else s.bands
  { s with bands := bands, sgc := PerMode.of fun m => sgcOf bands m, soloSec := soloSection s.cg bands s.fs }

/-- One tap set designed (R339, 44_structure_correction.md R313). -/
def State.designTapSet (s : State V) (g : Group) (k : Slot)
    (C : Config V := by first | assumption | exact Sys2Proof.Config.standard) : State V :=
  let p := s.corr.get g
  { s with corr := s.corr.set g (p.set k (designSlot (effStruct s.cg) s.fs s.bands (g.memberMode k) (p.get k))) }

/-- One step of a commit, run. -/
def State.commitStep (s : State V) (k : CommitStep)
    (C : Config V := by first | assumption | exact Sys2Proof.Config.standard) : State V :=
  match k with
  | .classS => s.commitS
  | .classG => s.commitG
  | .classB => s.commitB
  | .bandN j => { s with bands := s.bands.set j (s.bands[j].commitN s.w) }
  | .globalN => s.commitGlobal
  | .design j => { s with bands := s.bands.set j (s.bands[j].recompute s.fs) }
  | .shared => s.recomputeShared
  | .tapSet g k => s.designTapSet g k
  | .latency => s.updateLatency

/-- Steps of a commit, run in order. -/
def State.runSteps (s : State V) (ks : List CommitStep)
    (C : Config V := by first | assumption | exact Sys2Proof.Config.standard) : State V :=
  ks.foldl (fun t k => t.commitStep k) s

/-- The steps that transfer registers (R333): at most one of S, G, B, then the dirty bands in ascending order, then the globals. -/
def State.transferSteps (s : State V) : List CommitStep :=
  (if s.pendS then [.classS] else if s.pendG then [.classG] else if s.pendB then [.classB] else []) ++
    ((List.finRange Config.numBands).filter fun j => s.bands[j].dirty).map .bandN ++
    (if s.gdirty then [.globalN] else [])

/-- The steps of a RECOMPUTE (R339). -/
def State.recomputeSteps (s : State V) : List CommitStep :=
  (List.finRange Config.numBands).map .design ++ .shared :: s.tapSets.map fun p => .tapSet p.1 p.2

/-- The steps of a commit, in order (R333, R364): none where no flag is set. -/
def State.commitSteps (s : State V)
    (C : Config V := by first | assumption | exact Sys2Proof.Config.standard) : List CommitStep :=
  if s.anyFlag then s.transferSteps ++ (s.runSteps s.transferSteps).recomputeSteps ++ [.latency] else []

end Sys2Proof.Machine
end

