-- ==== Sys2Proof/Machine/Process.lean ====
section
/-! DEFINITION. PREPARE and PROCESS (45_controller.md R330 to R332, R341 to R347), and RESET (40_register_commands.md R107)
and NOP (R106): the commands without a register. -/

namespace Sys2Proof.Machine

open Arith

variable {V : Type} [Zero V] [One V] [NatCast V] [Add V] [Sub V] [Neg V] [Mul V] [Div V]
  [LT V] [LE V] [BEq V] [Min V] [Max V] [DecidableLT V] [DecidableLE V]

/-! ### RESET and NOP -/

/-- RESET (40_register_commands.md R107, 70_reset_and_hazards.md R410): every item of the state takes its reset value. What
stands at the ports is no state of the block (10_state.md R43) and stays; no event is signalled. -/
def State.resetCmd (s : State V)
    (C : Config V := by first | assumption | exact Sys2Proof.Config.standard) : State V :=
  { State.resetIn C with io := s.io }

/-- NOP (R106). -/
def execNop (s : State V) : Host.Outcome (State V) Fault Refusal := .next s

/-- RESET (R107). -/
def execReset (s : State V)
    (C : Config V := by first | assumption | exact Sys2Proof.Config.standard) : Host.Outcome (State V) Fault Refusal :=
  .next s.resetCmd

/-! ### PREPARE -/

/-- The band's part of PREPARE before RECOMPUTE (R330, 10_state.md R20). -/
def Band.prepare (w : Nat) (b : Band V)
    (C : Config V := by first | assumption | exact Sys2Proof.Config.standard) : Band V :=
  { b with
    comm := b.staged
    dirty := false
    disp := Display.reset
    fstate := fstateZero
    det := Detector.zero w
    hist := Hist.empty }

/-- PREPARE up to RECOMPUTE (R330): sizes, flags, committed registers and signal state. -/
def State.prepareClear (s : State V) (maxblock fs : Nat)
    (C : Config V := by first | assumption | exact Sys2Proof.Config.standard) : State V :=
  let w := rmsWindow s.pg fs
  { s with
    fs := fs
    maxblock := maxblock
    sublen := subLen fs
    prepared := true
    pendS := false
    pendG := false
    pendB := false
    gdirty := false
    cg := s.pg
    bands := mapV (fun b => Band.prepare w b) s.bands
    fifo := Fifo.zero (subLen fs)
    la := LaLine.zero (laFrames s.pg fs)
    w := w
    base := PerMode.of fun _ => Tracker.zero w
    corr := zeroCorrHist s.corr
    soloState := ⟨SecState.zero, SecState.zero⟩
    meas := Meas.zero }

/-- After PREPARE the sections every band runs are the design of its committed registers (10_state.md R30). -/
def Band.runBase (b : Band V) : Band V := { b with coefs := { b.coefs with curSecs := b.coefs.baseSecs } }

/-- PREPARE with a sample rate (R330). -/
def State.prepareWith (s : State V) (maxblock fs : Nat)
    (C : Config V := by first | assumption | exact Sys2Proof.Config.standard) : State V :=
  let s1 := (s.prepareClear maxblock fs).recompute
  { s1 with bands := mapV Band.runBase s1.bands }.updateLatency

/-- PREPARE (R330): ignored for fs = 0. -/
def execPrepare (maxblock fs : Nat) (s : State V)
    (C : Config V := by first | assumption | exact Sys2Proof.Config.standard) : Host.Outcome (State V) Fault Refusal :=
  .next (if fs = 0 then s else s.prepareWith maxblock fs)

/-! ### PROCESS -/

/-- The real an input sample denotes; none for a NaN or an infinity (30_encoding.md R99). -/
def sampleVal (w : DataWord) (C : Config V := by first | assumption | exact Sys2Proof.Config.standard) : Option V :=
  match f32val w with
  | .fin v => some (C.ofRat v)
  | _ => none

/-- One input frame (20_memory.md R63) with its sidechain pair (45_controller.md R341): the frame's side pair where a
sidechain is connected, else a copy of the main pair, the side pair then being ignored. -/
def frameOf (useSide : Bool) (mL mR sL sR : DataWord)
    (C : Config V := by first | assumption | exact Sys2Proof.Config.standard) : Option (Frame V) :=
  match sampleVal mL, sampleVal mR with
  | some l, some r =>
    if useSide then
      match sampleVal sL, sampleVal sR with
      | some sl, some sr => some ⟨l, r, sl, sr⟩
      | _, _ => none
    else some ⟨l, r, l, r⟩
  | _, _ => none

/-- The frames of a stream of samples (20_memory.md R61, R63): four words each, in order; none if a sample that is read is
not finite. -/
def framesOf (useSide : Bool) (ws : List DataWord)
    (C : Config V := by first | assumption | exact Sys2Proof.Config.standard) : Option (List (Frame V)) :=
  match ws with
  | mL :: mR :: sL :: sR :: rest =>
    match frameOf useSide mL mR sL sR, framesOf useSide rest C with
    | some f, some fs => some (f :: fs)
    | _, _ => none
  | _ => some []

/-- n_eff (20_memory.md R65). -/
def State.nEff (s : State V) (n : Nat) : Nat := min n (s.io.audioIn.length / 4)

/-- The samples PROCESS n reads. -/
def State.inputWords (s : State V) (n : Nat) : List DataWord := s.io.audioIn.take (4 * s.nEff n)

/-- The n_eff frames are consumed (20_memory.md R65). -/
def State.consume (s : State V) (n : Nat) : State V :=
  { s with io := { s.io with audioIn := s.io.audioIn.drop (4 * s.nEff n) } }

/-- FrameOut of a list of frames (20_memory.md R64): two words each, L then R. -/
def outWords (out : List (V × V))
    (C : Config V := by first | assumption | exact Sys2Proof.Config.standard) : List DataWord :=
  out.flatMap fun f => [f32enc f.1, f32enc f.2]

/-- The output frames written to the audio-out stream. -/
def State.emit (s : State V) (out : List (V × V))
    (C : Config V := by first | assumption | exact Sys2Proof.Config.standard) : State V :=
  { s with io := { s.io with audioOut := s.io.audioOut ++ outWords out } }

/-- The pre-chain tap of the measure gesture (R331, R357). -/
def Meas.pre (m : Meas V) (f : Frame V) : Meas V :=
  { m with preSum := m.preSum + (f.mL * f.mL + f.mR * f.mR), preN := m.preN + 2 }

/-- LA.EXCHANGE (R343) on the line: the identity on a line of length 0, else the ring exchange of 20_memory.md R66. -/
def LaLine.exchange (l : LaLine V) (x : V × V) : (V × V) × LaLine V :=
  if l.buf.length = 0 then (x, l)
  else (l.buf.getD l.pos (0, 0), { buf := l.buf.set l.pos x, pos := (l.pos + 1) % l.buf.length })

/-- What stands before the splitter (R331): the pre tap and the lookahead delay on one frame. -/
def frontFrame (s : State V) (f : Frame V) : Frame V × State V :=
  let r := s.la.exchange (f.mL, f.mR)
  ({ f with mL := r.1.1, mR := r.1.2 },
   { s with la := r.2, meas := if s.cg.measure then s.meas.pre f else s.meas })

/-- The front end over the frames of a PROCESS. -/
def frontRun : State V → List (Frame V) → List (Frame V) × State V
  | s, [] => ([], s)
  | s, f :: fs =>
    let r := frontFrame s f
    let z := frontRun r.2 fs
    (r.1 :: z.1, z.2)

/-- SPLIT.PUSH of the FIFO (R347). -/
def fifoPush (s : State V) (f : Frame V)
    (C : Config V := by first | assumption | exact Sys2Proof.Config.standard) : (V × V) × State V :=
  let o := s.fifo.out.getD s.fifo.pos (0, 0)
  let inp := s.fifo.inp.set s.fifo.pos f
  if s.fifo.pos + 1 = s.sublen then
    let r := subblock { s with fifo := { s.fifo with inp := inp } } inp
    (o, { r.2 with fifo := { inp := inp, out := r.1, pos := 0 } })
  else (o, { s with fifo := { s.fifo with inp := inp, pos := s.fifo.pos + 1 } })

/-- The FIFO splitter over the frames of a PROCESS (R347). -/
def fifoRun (s : State V) (fr : List (Frame V))
    (C : Config V := by first | assumption | exact Sys2Proof.Config.standard) : List (V × V) × State V :=
  match fr with
  | [] => ([], s)
  | f :: fs =>
    let r := fifoPush s f
    let z := fifoRun r.2 fs C
    (r.1 :: z.1, z.2)

/-- Frames cut, in order, into chunks of `n`, the last possibly shorter (R346); `fuel` bounds the number of chunks. -/
def chunks (n : Nat) : Nat → List (Frame V) → List (List (Frame V))
  | 0, _ => []
  | _, [] => []
  | fuel + 1, fs => fs.take n :: chunks n fuel (fs.drop n)

/-- The zero-latency chunks handed to SUBBLOCK one after another (R346). -/
def chunkRun (s : State V) (cs : List (List (Frame V)))
    (C : Config V := by first | assumption | exact Sys2Proof.Config.standard) : List (V × V) × State V :=
  match cs with
  | [] => ([], s)
  | c :: cs =>
    let r := subblock s c
    let z := chunkRun r.2 cs C
    (r.1 ++ z.1, z.2)

/-- The splitter (R345): the zero-latency chunker or the FIFO. -/
def splitRun (s : State V) (fr : List (Frame V))
    (C : Config V := by first | assumption | exact Sys2Proof.Config.standard) : List (V × V) × State V :=
  if s.cg.zeroLat then chunkRun s (chunks s.sublen fr.length fr) else fifoRun s fr

/-- The frames of a PROCESS after its COMMIT (R331). -/
def processFrames (s : State V) (fr : List (Frame V))
    (C : Config V := by first | assumption | exact Sys2Proof.Config.standard) : State V :=
  let a := frontRun s fr
  let b := splitRun a.2 a.1
  b.2.emit b.1

/-- PROCESS (R331, R332): COMMIT once, first, then every frame; before PREPARE the main pair passes through and nothing else
changes. A sample that is read and is not finite has no meaning in the spec (30_encoding.md R99). -/
def execProcess (n : Nat) (s : State V)
    (C : Config V := by first | assumption | exact Sys2Proof.Config.standard) : Host.Outcome (State V) Fault Refusal :=
  if s.prepared then
    match framesOf s.commit.cg.scPresent (s.inputWords n) with
    | some fr => .next (processFrames (s.consume n).commit fr)
    | none => .refused .nonFiniteSample
  else
    match framesOf false (s.inputWords n) with
    | some fr => .next ((s.consume n).emit (fr.map fun f => (f.mL, f.mR)))
    | none => .refused .nonFiniteSample

end Sys2Proof.Machine
end

