-- ==== Sys2Proof/Machine/ReadBand.lean ====
section
/-! DEFINITION. RDB (40_register_commands.md): the 20 staged registers and the 8 display registers of a band; each answers one word on its port. -/

namespace Sys2Proof.Machine

variable {V : Type} [Zero V] [One V] [NatCast V] [Add V] [Sub V] [Neg V] [Mul V] [Div V]
  [LT V] [LE V] [BEq V] [Min V] [Max V] [DecidableLT V] [DecidableLE V]

/-- RDB.ACTIVE (R113, R109). -/
def execRdbActive (band : Nat) (s : State V)
    (C : Config V := by first | assumption | exact Sys2Proof.Config.standard) : Host.Outcome (State V) Fault Refusal :=
  .next (s.respond (s.readBand .active band))

/-- RDB.BYPASS (R114, R109). -/
def execRdbBypass (band : Nat) (s : State V)
    (C : Config V := by first | assumption | exact Sys2Proof.Config.standard) : Host.Outcome (State V) Fault Refusal :=
  .next (s.respond (s.readBand .bypass band))

/-- RDB.FTYPE (R115, R109). -/
def execRdbFtype (band : Nat) (s : State V)
    (C : Config V := by first | assumption | exact Sys2Proof.Config.standard) : Host.Outcome (State V) Fault Refusal :=
  .next (s.respond (s.readBand .ftype band))

/-- RDB.ORDER (R116, R109). -/
def execRdbOrder (band : Nat) (s : State V)
    (C : Config V := by first | assumption | exact Sys2Proof.Config.standard) : Host.Outcome (State V) Fault Refusal :=
  .next (s.respond (s.readBand .order band))

/-- RDB.FREQ (R117, R109). -/
def execRdbFreq (band : Nat) (s : State V)
    (C : Config V := by first | assumption | exact Sys2Proof.Config.standard) : Host.Outcome (State V) Fault Refusal :=
  .next (s.respond (s.readBand .freq band))

/-- RDB.GAIN (R118, R109). -/
def execRdbGain (band : Nat) (s : State V)
    (C : Config V := by first | assumption | exact Sys2Proof.Config.standard) : Host.Outcome (State V) Fault Refusal :=
  .next (s.respond (s.readBand .gain band))

/-- RDB.Q (R119, R109). -/
def execRdbQ (band : Nat) (s : State V)
    (C : Config V := by first | assumption | exact Sys2Proof.Config.standard) : Host.Outcome (State V) Fault Refusal :=
  .next (s.respond (s.readBand .q band))

/-- RDB.STEREO (R120, R109). -/
def execRdbStereo (band : Nat) (s : State V)
    (C : Config V := by first | assumption | exact Sys2Proof.Config.standard) : Host.Outcome (State V) Fault Refusal :=
  .next (s.respond (s.readBand .stereo band))

/-- RDB.DYN_ON (R121, R109). -/
def execRdbDynOn (band : Nat) (s : State V)
    (C : Config V := by first | assumption | exact Sys2Proof.Config.standard) : Host.Outcome (State V) Fault Refusal :=
  .next (s.respond (s.readBand .dynOn band))

/-- RDB.TGAIN (R122, R109). -/
def execRdbTgain (band : Nat) (s : State V)
    (C : Config V := by first | assumption | exact Sys2Proof.Config.standard) : Host.Outcome (State V) Fault Refusal :=
  .next (s.respond (s.readBand .tgain band))

/-- RDB.TQ (R123, R109). -/
def execRdbTq (band : Nat) (s : State V)
    (C : Config V := by first | assumption | exact Sys2Proof.Config.standard) : Host.Outcome (State V) Fault Refusal :=
  .next (s.respond (s.readBand .tq band))

/-- RDB.THRESH (R124, R109). -/
def execRdbThresh (band : Nat) (s : State V)
    (C : Config V := by first | assumption | exact Sys2Proof.Config.standard) : Host.Outcome (State V) Fault Refusal :=
  .next (s.respond (s.readBand .thresh band))

/-- RDB.KNEE (R125, R109). -/
def execRdbKnee (band : Nat) (s : State V)
    (C : Config V := by first | assumption | exact Sys2Proof.Config.standard) : Host.Outcome (State V) Fault Refusal :=
  .next (s.respond (s.readBand .knee band))

/-- RDB.ATTACK (R126, R109). -/
def execRdbAttack (band : Nat) (s : State V)
    (C : Config V := by first | assumption | exact Sys2Proof.Config.standard) : Host.Outcome (State V) Fault Refusal :=
  .next (s.respond (s.readBand .attack band))

/-- RDB.RELEASE (R127, R109). -/
def execRdbRelease (band : Nat) (s : State V)
    (C : Config V := by first | assumption | exact Sys2Proof.Config.standard) : Host.Outcome (State V) Fault Refusal :=
  .next (s.respond (s.readBand .release band))

/-- RDB.REL_THRESH (R128, R109). -/
def execRdbRelThresh (band : Nat) (s : State V)
    (C : Config V := by first | assumption | exact Sys2Proof.Config.standard) : Host.Outcome (State V) Fault Refusal :=
  .next (s.respond (s.readBand .relThresh band))

/-- RDB.SIDE_FREQ (R129, R109). -/
def execRdbSideFreq (band : Nat) (s : State V)
    (C : Config V := by first | assumption | exact Sys2Proof.Config.standard) : Host.Outcome (State V) Fault Refusal :=
  .next (s.respond (s.readBand .sideFreq band))

/-- RDB.SIDE_Q (R130, R109). -/
def execRdbSideQ (band : Nat) (s : State V)
    (C : Config V := by first | assumption | exact Sys2Proof.Config.standard) : Host.Outcome (State V) Fault Refusal :=
  .next (s.respond (s.readBand .sideQ band))

/-- RDB.SIDE_SWAP (R131, R109). -/
def execRdbSideSwap (band : Nat) (s : State V)
    (C : Config V := by first | assumption | exact Sys2Proof.Config.standard) : Host.Outcome (State V) Fault Refusal :=
  .next (s.respond (s.readBand .sideSwap band))

/-- RDB.LEARN (R132, R109). -/
def execRdbLearn (band : Nat) (s : State V)
    (C : Config V := by first | assumption | exact Sys2Proof.Config.standard) : Host.Outcome (State V) Fault Refusal :=
  .next (s.respond (s.readBand .learn band))

/-- RDB.CUR_T (R133, R109). -/
def execRdbCurT (band : Nat) (s : State V)
    (C : Config V := by first | assumption | exact Sys2Proof.Config.standard) : Host.Outcome (State V) Fault Refusal :=
  .next (s.respond (s.readDisplay .curT band))

/-- RDB.CUR_GAIN (R134, R109). -/
def execRdbCurGain (band : Nat) (s : State V)
    (C : Config V := by first | assumption | exact Sys2Proof.Config.standard) : Host.Outcome (State V) Fault Refusal :=
  .next (s.respond (s.readDisplay .curGain band))

/-- RDB.CUR_Q (R135, R109). -/
def execRdbCurQ (band : Nat) (s : State V)
    (C : Config V := by first | assumption | exact Sys2Proof.Config.standard) : Host.Outcome (State V) Fault Refusal :=
  .next (s.respond (s.readDisplay .curQ band))

/-- RDB.CUR_LEVEL (R136, R109). -/
def execRdbCurLevel (band : Nat) (s : State V)
    (C : Config V := by first | assumption | exact Sys2Proof.Config.standard) : Host.Outcome (State V) Fault Refusal :=
  .next (s.respond (s.readDisplay .curLevel band))

/-- RDB.HIST_P05 (R137, R109). -/
def execRdbHistP05 (band : Nat) (s : State V)
    (C : Config V := by first | assumption | exact Sys2Proof.Config.standard) : Host.Outcome (State V) Fault Refusal :=
  .next (s.respond (s.readDisplay .histP05 band))

/-- RDB.HIST_P50 (R138, R109). -/
def execRdbHistP50 (band : Nat) (s : State V)
    (C : Config V := by first | assumption | exact Sys2Proof.Config.standard) : Host.Outcome (State V) Fault Refusal :=
  .next (s.respond (s.readDisplay .histP50 band))

/-- RDB.HIST_P95 (R139, R109). -/
def execRdbHistP95 (band : Nat) (s : State V)
    (C : Config V := by first | assumption | exact Sys2Proof.Config.standard) : Host.Outcome (State V) Fault Refusal :=
  .next (s.respond (s.readDisplay .histP95 band))

/-- RDB.NSEC (R140, R109). -/
def execRdbNsec (band : Nat) (s : State V)
    (C : Config V := by first | assumption | exact Sys2Proof.Config.standard) : Host.Outcome (State V) Fault Refusal :=
  .next (s.respond (s.readDisplay .nsec band))

end Sys2Proof.Machine
end

