-- ==== Sys2Proof/Machine/ReadGlobal.lean ====
section
/-! DEFINITION. RDG (40_register_commands.md): the 13 staged and the 8 read-only global registers; each answers one word on its port. -/

namespace Sys2Proof.Machine

variable {V : Type} [Zero V] [One V] [NatCast V] [Add V] [Sub V] [Neg V] [Mul V] [Div V]
  [LT V] [LE V] [BEq V] [Min V] [Max V] [DecidableLT V] [DecidableLE V]

/-- RDG.STRUCTURE (R141, R111). -/
def execRdgStructure (s : State V)
    (C : Config V := by first | assumption | exact Sys2Proof.Config.standard) : Host.Outcome (State V) Fault Refusal :=
  .next (s.respond (s.readGlobal .struct))

/-- RDG.ZERO_LAT (R142, R111). -/
def execRdgZeroLat (s : State V)
    (C : Config V := by first | assumption | exact Sys2Proof.Config.standard) : Host.Outcome (State V) Fault Refusal :=
  .next (s.respond (s.readGlobal .zeroLat))

/-- RDG.LOOKAHEAD (R143, R111). -/
def execRdgLookahead (s : State V)
    (C : Config V := by first | assumption | exact Sys2Proof.Config.standard) : Host.Outcome (State V) Fault Refusal :=
  .next (s.respond (s.readGlobal .lookahead))

/-- RDG.SC_PRESENT (R144, R111). -/
def execRdgScPresent (s : State V)
    (C : Config V := by first | assumption | exact Sys2Proof.Config.standard) : Host.Outcome (State V) Fault Refusal :=
  .next (s.respond (s.readGlobal .scPresent))

/-- RDG.SOLO (R145, R111). -/
def execRdgSolo (s : State V)
    (C : Config V := by first | assumption | exact Sys2Proof.Config.standard) : Host.Outcome (State V) Fault Refusal :=
  .next (s.respond (s.readGlobal .solo))

/-- RDG.TRIM (R146, R111). -/
def execRdgTrim (s : State V)
    (C : Config V := by first | assumption | exact Sys2Proof.Config.standard) : Host.Outcome (State V) Fault Refusal :=
  .next (s.respond (s.readGlobal .trim))

/-- RDG.EFFECT_ON (R147, R111). -/
def execRdgEffectOn (s : State V)
    (C : Config V := by first | assumption | exact Sys2Proof.Config.standard) : Host.Outcome (State V) Fault Refusal :=
  .next (s.respond (s.readGlobal .effectOn))

/-- RDG.HQ (R148, R111). -/
def execRdgHq (s : State V)
    (C : Config V := by first | assumption | exact Sys2Proof.Config.standard) : Host.Outcome (State V) Fault Refusal :=
  .next (s.respond (s.readGlobal .hq))

/-- RDG.PHASE_FLIP (R149, R111). -/
def execRdgPhaseFlip (s : State V)
    (C : Config V := by first | assumption | exact Sys2Proof.Config.standard) : Host.Outcome (State V) Fault Refusal :=
  .next (s.respond (s.readGlobal .phaseFlip))

/-- RDG.SGC_ON (R150, R111). -/
def execRdgSgcOn (s : State V)
    (C : Config V := by first | assumption | exact Sys2Proof.Config.standard) : Host.Outcome (State V) Fault Refusal :=
  .next (s.respond (s.readGlobal .sgcOn))

/-- RDG.MEASURE (R151, R111). -/
def execRdgMeasure (s : State V)
    (C : Config V := by first | assumption | exact Sys2Proof.Config.standard) : Host.Outcome (State V) Fault Refusal :=
  .next (s.respond (s.readGlobal .measure))

/-- RDG.RMS_MS (R152, R111). -/
def execRdgRmsMs (s : State V)
    (C : Config V := by first | assumption | exact Sys2Proof.Config.standard) : Host.Outcome (State V) Fault Refusal :=
  .next (s.respond (s.readGlobal .rmsMs))

/-- RDG.DECAY_SEL (R153, R111). -/
def execRdgDecaySel (s : State V)
    (C : Config V := by first | assumption | exact Sys2Proof.Config.standard) : Host.Outcome (State V) Fault Refusal :=
  .next (s.respond (s.readGlobal .decaySel))

/-- RDG.LATENCY (R154, R111). -/
def execRdgLatency (s : State V)
    (C : Config V := by first | assumption | exact Sys2Proof.Config.standard) : Host.Outcome (State V) Fault Refusal :=
  .next (s.respond (s.readRo .latency))

/-- RDG.SRATE (R155, R111). -/
def execRdgSrate (s : State V)
    (C : Config V := by first | assumption | exact Sys2Proof.Config.standard) : Host.Outcome (State V) Fault Refusal :=
  .next (s.respond (s.readRo .srate))

/-- RDG.MAXBLOCK (R156, R111). -/
def execRdgMaxblock (s : State V)
    (C : Config V := by first | assumption | exact Sys2Proof.Config.standard) : Host.Outcome (State V) Fault Refusal :=
  .next (s.respond (s.readRo .maxblock))

/-- RDG.SUBLEN (R157, R111). -/
def execRdgSublen (s : State V)
    (C : Config V := by first | assumption | exact Sys2Proof.Config.standard) : Host.Outcome (State V) Fault Refusal :=
  .next (s.respond (s.readRo .sublen))

/-- RDG.STATUS (R158, R111). -/
def execRdgStatus (s : State V)
    (C : Config V := by first | assumption | exact Sys2Proof.Config.standard) : Host.Outcome (State V) Fault Refusal :=
  .next (s.respond (s.readRo .status))

/-- RDG.LAT_SEQ (R159, R111). -/
def execRdgLatSeq (s : State V)
    (C : Config V := by first | assumption | exact Sys2Proof.Config.standard) : Host.Outcome (State V) Fault Refusal :=
  .next (s.respond (s.readRo .latSeq))

/-- RDG.AGAIN (R160, R111). -/
def execRdgAgain (s : State V)
    (C : Config V := by first | assumption | exact Sys2Proof.Config.standard) : Host.Outcome (State V) Fault Refusal :=
  .next (s.respond (s.readRo .again))

/-- RDG.EFF_STRUCT (R161, R111). -/
def execRdgEffStruct (s : State V)
    (C : Config V := by first | assumption | exact Sys2Proof.Config.standard) : Host.Outcome (State V) Fault Refusal :=
  .next (s.respond (s.readRo .effStruct))

end Sys2Proof.Machine
end

