-- ==== Sys2Proof/Machine/WriteBand.lean ====
section
/-! DEFINITION. WRB (40_register_commands.md): the 20 writable registers of a band; band 16 to 255 and ignored data change nothing. -/

namespace Sys2Proof.Machine

variable {V : Type} [Zero V] [One V] [NatCast V] [Add V] [Sub V] [Neg V] [Mul V] [Div V]
  [LT V] [LE V] [BEq V] [Min V] [Max V] [DecidableLT V] [DecidableLE V]

/-- WRB.ACTIVE (R113, R108). -/
def execWrbActive (band : Nat) (data : DataWord) (s : State V)
    (C : Config V := by first | assumption | exact Sys2Proof.Config.standard) : Host.Outcome (State V) Fault Refusal :=
  .next (s.writeBand .active band data)

/-- WRB.BYPASS (R114, R108). -/
def execWrbBypass (band : Nat) (data : DataWord) (s : State V)
    (C : Config V := by first | assumption | exact Sys2Proof.Config.standard) : Host.Outcome (State V) Fault Refusal :=
  .next (s.writeBand .bypass band data)

/-- WRB.FTYPE (R115, R108). -/
def execWrbFtype (band : Nat) (data : DataWord) (s : State V)
    (C : Config V := by first | assumption | exact Sys2Proof.Config.standard) : Host.Outcome (State V) Fault Refusal :=
  .next (s.writeBand .ftype band data)

/-- WRB.ORDER (R116, R108). -/
def execWrbOrder (band : Nat) (data : DataWord) (s : State V)
    (C : Config V := by first | assumption | exact Sys2Proof.Config.standard) : Host.Outcome (State V) Fault Refusal :=
  .next (s.writeBand .order band data)

/-- WRB.FREQ (R117, R108). -/
def execWrbFreq (band : Nat) (data : DataWord) (s : State V)
    (C : Config V := by first | assumption | exact Sys2Proof.Config.standard) : Host.Outcome (State V) Fault Refusal :=
  .next (s.writeBand .freq band data)

/-- WRB.GAIN (R118, R108). -/
def execWrbGain (band : Nat) (data : DataWord) (s : State V)
    (C : Config V := by first | assumption | exact Sys2Proof.Config.standard) : Host.Outcome (State V) Fault Refusal :=
  .next (s.writeBand .gain band data)

/-- WRB.Q (R119, R108). -/
def execWrbQ (band : Nat) (data : DataWord) (s : State V)
    (C : Config V := by first | assumption | exact Sys2Proof.Config.standard) : Host.Outcome (State V) Fault Refusal :=
  .next (s.writeBand .q band data)

/-- WRB.STEREO (R120, R108). -/
def execWrbStereo (band : Nat) (data : DataWord) (s : State V)
    (C : Config V := by first | assumption | exact Sys2Proof.Config.standard) : Host.Outcome (State V) Fault Refusal :=
  .next (s.writeBand .stereo band data)

/-- WRB.DYN_ON (R121, R108). -/
def execWrbDynOn (band : Nat) (data : DataWord) (s : State V)
    (C : Config V := by first | assumption | exact Sys2Proof.Config.standard) : Host.Outcome (State V) Fault Refusal :=
  .next (s.writeBand .dynOn band data)

/-- WRB.TGAIN (R122, R108). -/
def execWrbTgain (band : Nat) (data : DataWord) (s : State V)
    (C : Config V := by first | assumption | exact Sys2Proof.Config.standard) : Host.Outcome (State V) Fault Refusal :=
  .next (s.writeBand .tgain band data)

/-- WRB.TQ (R123, R108). -/
def execWrbTq (band : Nat) (data : DataWord) (s : State V)
    (C : Config V := by first | assumption | exact Sys2Proof.Config.standard) : Host.Outcome (State V) Fault Refusal :=
  .next (s.writeBand .tq band data)

/-- WRB.THRESH (R124, R108). -/
def execWrbThresh (band : Nat) (data : DataWord) (s : State V)
    (C : Config V := by first | assumption | exact Sys2Proof.Config.standard) : Host.Outcome (State V) Fault Refusal :=
  .next (s.writeBand .thresh band data)

/-- WRB.KNEE (R125, R108). -/
def execWrbKnee (band : Nat) (data : DataWord) (s : State V)
    (C : Config V := by first | assumption | exact Sys2Proof.Config.standard) : Host.Outcome (State V) Fault Refusal :=
  .next (s.writeBand .knee band data)

/-- WRB.ATTACK (R126, R108). -/
def execWrbAttack (band : Nat) (data : DataWord) (s : State V)
    (C : Config V := by first | assumption | exact Sys2Proof.Config.standard) : Host.Outcome (State V) Fault Refusal :=
  .next (s.writeBand .attack band data)

/-- WRB.RELEASE (R127, R108). -/
def execWrbRelease (band : Nat) (data : DataWord) (s : State V)
    (C : Config V := by first | assumption | exact Sys2Proof.Config.standard) : Host.Outcome (State V) Fault Refusal :=
  .next (s.writeBand .release band data)

/-- WRB.REL_THRESH (R128, R108). -/
def execWrbRelThresh (band : Nat) (data : DataWord) (s : State V)
    (C : Config V := by first | assumption | exact Sys2Proof.Config.standard) : Host.Outcome (State V) Fault Refusal :=
  .next (s.writeBand .relThresh band data)

/-- WRB.SIDE_FREQ (R129, R108). -/
def execWrbSideFreq (band : Nat) (data : DataWord) (s : State V)
    (C : Config V := by first | assumption | exact Sys2Proof.Config.standard) : Host.Outcome (State V) Fault Refusal :=
  .next (s.writeBand .sideFreq band data)

/-- WRB.SIDE_Q (R130, R108). -/
def execWrbSideQ (band : Nat) (data : DataWord) (s : State V)
    (C : Config V := by first | assumption | exact Sys2Proof.Config.standard) : Host.Outcome (State V) Fault Refusal :=
  .next (s.writeBand .sideQ band data)

/-- WRB.SIDE_SWAP (R131, R108). -/
def execWrbSideSwap (band : Nat) (data : DataWord) (s : State V)
    (C : Config V := by first | assumption | exact Sys2Proof.Config.standard) : Host.Outcome (State V) Fault Refusal :=
  .next (s.writeBand .sideSwap band data)

/-- WRB.LEARN (R132, R108). -/
def execWrbLearn (band : Nat) (data : DataWord) (s : State V)
    (C : Config V := by first | assumption | exact Sys2Proof.Config.standard) : Host.Outcome (State V) Fault Refusal :=
  .next (s.writeBand .learn band data)

end Sys2Proof.Machine
end

