-- ==== Sys2Proof/Machine/WriteGlobal.lean ====
section
/-! DEFINITION. WRG (40_register_commands.md): the 13 writable global registers. -/

namespace Sys2Proof.Machine

variable {V : Type} [Zero V] [One V] [NatCast V] [Add V] [Sub V] [Neg V] [Mul V] [Div V]
  [LT V] [LE V] [BEq V] [Min V] [Max V] [DecidableLT V] [DecidableLE V]

/-- WRG.STRUCTURE (R141, R110). -/
def execWrgStructure (data : DataWord) (s : State V)
    (C : Config V := by first | assumption | exact Sys2Proof.Config.standard) : Host.Outcome (State V) Fault Refusal :=
  .next (s.writeGlobal .struct data)

/-- WRG.ZERO_LAT (R142, R110). -/
def execWrgZeroLat (data : DataWord) (s : State V)
    (C : Config V := by first | assumption | exact Sys2Proof.Config.standard) : Host.Outcome (State V) Fault Refusal :=
  .next (s.writeGlobal .zeroLat data)

/-- WRG.LOOKAHEAD (R143, R110). -/
def execWrgLookahead (data : DataWord) (s : State V)
    (C : Config V := by first | assumption | exact Sys2Proof.Config.standard) : Host.Outcome (State V) Fault Refusal :=
  .next (s.writeGlobal .lookahead data)

/-- WRG.SC_PRESENT (R144, R110). -/
def execWrgScPresent (data : DataWord) (s : State V)
    (C : Config V := by first | assumption | exact Sys2Proof.Config.standard) : Host.Outcome (State V) Fault Refusal :=
  .next (s.writeGlobal .scPresent data)

/-- WRG.SOLO (R145, R110). -/
def execWrgSolo (data : DataWord) (s : State V)
    (C : Config V := by first | assumption | exact Sys2Proof.Config.standard) : Host.Outcome (State V) Fault Refusal :=
  .next (s.writeGlobal .solo data)

/-- WRG.TRIM (R146, R110). -/
def execWrgTrim (data : DataWord) (s : State V)
    (C : Config V := by first | assumption | exact Sys2Proof.Config.standard) : Host.Outcome (State V) Fault Refusal :=
  .next (s.writeGlobal .trim data)

/-- WRG.EFFECT_ON (R147, R110). -/
def execWrgEffectOn (data : DataWord) (s : State V)
    (C : Config V := by first | assumption | exact Sys2Proof.Config.standard) : Host.Outcome (State V) Fault Refusal :=
  .next (s.writeGlobal .effectOn data)

/-- WRG.HQ (R148, R110). -/
def execWrgHq (data : DataWord) (s : State V)
    (C : Config V := by first | assumption | exact Sys2Proof.Config.standard) : Host.Outcome (State V) Fault Refusal :=
  .next (s.writeGlobal .hq data)

/-- WRG.PHASE_FLIP (R149, R110). -/
def execWrgPhaseFlip (data : DataWord) (s : State V)
    (C : Config V := by first | assumption | exact Sys2Proof.Config.standard) : Host.Outcome (State V) Fault Refusal :=
  .next (s.writeGlobal .phaseFlip data)

/-- WRG.SGC_ON (R150, R110). -/
def execWrgSgcOn (data : DataWord) (s : State V)
    (C : Config V := by first | assumption | exact Sys2Proof.Config.standard) : Host.Outcome (State V) Fault Refusal :=
  .next (s.writeGlobal .sgcOn data)

/-- WRG.MEASURE (R151, R110). -/
def execWrgMeasure (data : DataWord) (s : State V)
    (C : Config V := by first | assumption | exact Sys2Proof.Config.standard) : Host.Outcome (State V) Fault Refusal :=
  .next (s.writeGlobal .measure data)

/-- WRG.RMS_MS (R152, R110). -/
def execWrgRmsMs (data : DataWord) (s : State V)
    (C : Config V := by first | assumption | exact Sys2Proof.Config.standard) : Host.Outcome (State V) Fault Refusal :=
  .next (s.writeGlobal .rmsMs data)

/-- WRG.DECAY_SEL (R153, R110). -/
def execWrgDecaySel (data : DataWord) (s : State V)
    (C : Config V := by first | assumption | exact Sys2Proof.Config.standard) : Host.Outcome (State V) Fault Refusal :=
  .next (s.writeGlobal .decaySel data)

end Sys2Proof.Machine
end

