-- ==== Sys2Proof/Machine/Dispatch.lean ====
section
/-! DEFINITION. The dispatch: one arm for each command (30_encoding.md R104). -/

namespace Sys2Proof.Machine

def exec (i : Instr) (s : State) : Host.Outcome State Fault Refusal :=
  match i with
  | .nop => Sys2Proof.Machine.execNop s
  | .reset => Sys2Proof.Machine.execReset s
  | .prepare maxblock fs => Sys2Proof.Machine.execPrepare maxblock fs s
  | .process n => Sys2Proof.Machine.execProcess n s
  | .wrbActive band data => Sys2Proof.Machine.execWrbActive band data s
  | .wrbBypass band data => Sys2Proof.Machine.execWrbBypass band data s
  | .wrbFtype band data => Sys2Proof.Machine.execWrbFtype band data s
  | .wrbOrder band data => Sys2Proof.Machine.execWrbOrder band data s
  | .wrbFreq band data => Sys2Proof.Machine.execWrbFreq band data s
  | .wrbGain band data => Sys2Proof.Machine.execWrbGain band data s
  | .wrbQ band data => Sys2Proof.Machine.execWrbQ band data s
  | .wrbStereo band data => Sys2Proof.Machine.execWrbStereo band data s
  | .wrbDynOn band data => Sys2Proof.Machine.execWrbDynOn band data s
  | .wrbTgain band data => Sys2Proof.Machine.execWrbTgain band data s
  | .wrbTq band data => Sys2Proof.Machine.execWrbTq band data s
  | .wrbThresh band data => Sys2Proof.Machine.execWrbThresh band data s
  | .wrbKnee band data => Sys2Proof.Machine.execWrbKnee band data s
  | .wrbAttack band data => Sys2Proof.Machine.execWrbAttack band data s
  | .wrbRelease band data => Sys2Proof.Machine.execWrbRelease band data s
  | .wrbRelThresh band data => Sys2Proof.Machine.execWrbRelThresh band data s
  | .wrbSideFreq band data => Sys2Proof.Machine.execWrbSideFreq band data s
  | .wrbSideQ band data => Sys2Proof.Machine.execWrbSideQ band data s
  | .wrbSideSwap band data => Sys2Proof.Machine.execWrbSideSwap band data s
  | .wrbLearn band data => Sys2Proof.Machine.execWrbLearn band data s
  | .rdbActive band => Sys2Proof.Machine.execRdbActive band s
  | .rdbBypass band => Sys2Proof.Machine.execRdbBypass band s
  | .rdbFtype band => Sys2Proof.Machine.execRdbFtype band s
  | .rdbOrder band => Sys2Proof.Machine.execRdbOrder band s
  | .rdbFreq band => Sys2Proof.Machine.execRdbFreq band s
  | .rdbGain band => Sys2Proof.Machine.execRdbGain band s
  | .rdbQ band => Sys2Proof.Machine.execRdbQ band s
  | .rdbStereo band => Sys2Proof.Machine.execRdbStereo band s
  | .rdbDynOn band => Sys2Proof.Machine.execRdbDynOn band s
  | .rdbTgain band => Sys2Proof.Machine.execRdbTgain band s
  | .rdbTq band => Sys2Proof.Machine.execRdbTq band s
  | .rdbThresh band => Sys2Proof.Machine.execRdbThresh band s
  | .rdbKnee band => Sys2Proof.Machine.execRdbKnee band s
  | .rdbAttack band => Sys2Proof.Machine.execRdbAttack band s
  | .rdbRelease band => Sys2Proof.Machine.execRdbRelease band s
  | .rdbRelThresh band => Sys2Proof.Machine.execRdbRelThresh band s
  | .rdbSideFreq band => Sys2Proof.Machine.execRdbSideFreq band s
  | .rdbSideQ band => Sys2Proof.Machine.execRdbSideQ band s
  | .rdbSideSwap band => Sys2Proof.Machine.execRdbSideSwap band s
  | .rdbLearn band => Sys2Proof.Machine.execRdbLearn band s
  | .rdbCurT band => Sys2Proof.Machine.execRdbCurT band s
  | .rdbCurGain band => Sys2Proof.Machine.execRdbCurGain band s
  | .rdbCurQ band => Sys2Proof.Machine.execRdbCurQ band s
  | .rdbCurLevel band => Sys2Proof.Machine.execRdbCurLevel band s
  | .rdbHistP05 band => Sys2Proof.Machine.execRdbHistP05 band s
  | .rdbHistP50 band => Sys2Proof.Machine.execRdbHistP50 band s
  | .rdbHistP95 band => Sys2Proof.Machine.execRdbHistP95 band s
  | .rdbNsec band => Sys2Proof.Machine.execRdbNsec band s
  | .wrgStructure data => Sys2Proof.Machine.execWrgStructure data s
  | .wrgZeroLat data => Sys2Proof.Machine.execWrgZeroLat data s
  | .wrgLookahead data => Sys2Proof.Machine.execWrgLookahead data s
  | .wrgScPresent data => Sys2Proof.Machine.execWrgScPresent data s
  | .wrgSolo data => Sys2Proof.Machine.execWrgSolo data s
  | .wrgTrim data => Sys2Proof.Machine.execWrgTrim data s
  | .wrgEffectOn data => Sys2Proof.Machine.execWrgEffectOn data s
  | .wrgHq data => Sys2Proof.Machine.execWrgHq data s
  | .wrgPhaseFlip data => Sys2Proof.Machine.execWrgPhaseFlip data s
  | .wrgSgcOn data => Sys2Proof.Machine.execWrgSgcOn data s
  | .wrgMeasure data => Sys2Proof.Machine.execWrgMeasure data s
  | .wrgRmsMs data => Sys2Proof.Machine.execWrgRmsMs data s
  | .wrgDecaySel data => Sys2Proof.Machine.execWrgDecaySel data s
  | .rdgStructure => Sys2Proof.Machine.execRdgStructure s
  | .rdgZeroLat => Sys2Proof.Machine.execRdgZeroLat s
  | .rdgLookahead => Sys2Proof.Machine.execRdgLookahead s
  | .rdgScPresent => Sys2Proof.Machine.execRdgScPresent s
  | .rdgSolo => Sys2Proof.Machine.execRdgSolo s
  | .rdgTrim => Sys2Proof.Machine.execRdgTrim s
  | .rdgEffectOn => Sys2Proof.Machine.execRdgEffectOn s
  | .rdgHq => Sys2Proof.Machine.execRdgHq s
  | .rdgPhaseFlip => Sys2Proof.Machine.execRdgPhaseFlip s
  | .rdgSgcOn => Sys2Proof.Machine.execRdgSgcOn s
  | .rdgMeasure => Sys2Proof.Machine.execRdgMeasure s
  | .rdgRmsMs => Sys2Proof.Machine.execRdgRmsMs s
  | .rdgDecaySel => Sys2Proof.Machine.execRdgDecaySel s
  | .rdgLatency => Sys2Proof.Machine.execRdgLatency s
  | .rdgSrate => Sys2Proof.Machine.execRdgSrate s
  | .rdgMaxblock => Sys2Proof.Machine.execRdgMaxblock s
  | .rdgSublen => Sys2Proof.Machine.execRdgSublen s
  | .rdgStatus => Sys2Proof.Machine.execRdgStatus s
  | .rdgLatSeq => Sys2Proof.Machine.execRdgLatSeq s
  | .rdgAgain => Sys2Proof.Machine.execRdgAgain s
  | .rdgEffStruct => Sys2Proof.Machine.execRdgEffStruct s

end Sys2Proof.Machine
end

