-- ==== Sys2Proof/Machine/Step.lean ====
section
/-! DEFINITION. One step: the next command of the merged stream, executed to completion (20_memory.md R69, R70). -/

namespace Sys2Proof.Machine

/-- What a decoded word does: a command has its meaning; a reserved word changes nothing, a reserved RDB or RDG answering 0
(30_encoding.md R100). -/
def execDecoded (w : CmdWord) (d : Decoded) (s : State) : Host.Outcome State Fault Refusal :=
  match d with
  | .instr i => exec i s
  | .reserved _ => .next (s.reserved w)

/-- One step. The block has no program and no program counter (10_state.md R40): a step takes the command at the head of the
merged stream and executes it. With no command waiting the block does nothing (log entry 4). -/
def step (s : State) : Host.Outcome State Fault Refusal :=
  match s.io.cmds with
  | [] => .next s
  | c :: rest => execDecoded c.word (decode c.word) (s.takeCmd c rest)

/-- The state with one command word arriving at the head of the merged stream: the step that follows executes it
(log entry 4). -/
def State.withFetchWord (s : State) (nbits w : Nat) : State :=
  { s with
    io := { s.io with
      cmds := ⟨portOf (BitVec.ofNat 64 (w % 2 ^ nbits)), BitVec.ofNat 64 (w % 2 ^ nbits)⟩ :: s.io.cmds } }

end Sys2Proof.Machine
end

