-- ==== Sys2Proof/Machine/Configured.lean ====
section
/-! DEFINITION. The machine in every configuration. 00_scope.md R9 has the model take the record of its parameters as an
argument, and R13 has ARITH be one of them: `execIn` and `stepIn` are the block over any type of values with any record.
`exec` and `step` are these at `Config.standard` (`exec_eq_execIn`, `step_eq_stepIn` in Laws/Commit.lean). Then the two
instances R13 names: the exact reals, and IEEE 754 binary64. -/

namespace Sys2Proof.Machine

section AnyValues

variable {V : Type} [Zero V] [One V] [NatCast V] [Add V] [Sub V] [Neg V] [Mul V] [Div V]
  [LT V] [LE V] [BEq V] [Min V] [Max V] [DecidableLT V] [DecidableLE V]

/-- What a command does in configuration `C` (30_encoding.md R104): the meanings of `exec`. -/
def execIn (C : Config V) (i : Instr) (s : State V) : Host.Outcome (State V) Fault Refusal :=
  match i with
  | .nop => execNop s
  | .reset => execReset s C
  | .prepare maxblock fs => execPrepare maxblock fs s C
  | .process n => execProcess n s C
  | .wrbActive band data => execWrbActive band data s C
  | .wrbBypass band data => execWrbBypass band data s C
  | .wrbFtype band data => execWrbFtype band data s C
  | .wrbOrder band data => execWrbOrder band data s C
  | .wrbFreq band data => execWrbFreq band data s C
  | .wrbGain band data => execWrbGain band data s C
  | .wrbQ band data => execWrbQ band data s C
  | .wrbStereo band data => execWrbStereo band data s C
  | .wrbDynOn band data => execWrbDynOn band data s C
  | .wrbTgain band data => execWrbTgain band data s C
  | .wrbTq band data => execWrbTq band data s C
  | .wrbThresh band data => execWrbThresh band data s C
  | .wrbKnee band data => execWrbKnee band data s C
  | .wrbAttack band data => execWrbAttack band data s C
  | .wrbRelease band data => execWrbRelease band data s C
  | .wrbRelThresh band data => execWrbRelThresh band data s C
  | .wrbSideFreq band data => execWrbSideFreq band data s C
  | .wrbSideQ band data => execWrbSideQ band data s C
  | .wrbSideSwap band data => execWrbSideSwap band data s C
  | .wrbLearn band data => execWrbLearn band data s C
  | .rdbActive band => execRdbActive band s C
  | .rdbBypass band => execRdbBypass band s C
  | .rdbFtype band => execRdbFtype band s C
  | .rdbOrder band => execRdbOrder band s C
  | .rdbFreq band => execRdbFreq band s C
  | .rdbGain band => execRdbGain band s C
  | .rdbQ band => execRdbQ band s C
  | .rdbStereo band => execRdbStereo band s C
  | .rdbDynOn band => execRdbDynOn band s C
  | .rdbTgain band => execRdbTgain band s C
  | .rdbTq band => execRdbTq band s C
  | .rdbThresh band => execRdbThresh band s C
  | .rdbKnee band => execRdbKnee band s C
  | .rdbAttack band => execRdbAttack band s C
  | .rdbRelease band => execRdbRelease band s C
  | .rdbRelThresh band => execRdbRelThresh band s C
  | .rdbSideFreq band => execRdbSideFreq band s C
  | .rdbSideQ band => execRdbSideQ band s C
  | .rdbSideSwap band => execRdbSideSwap band s C
  | .rdbLearn band => execRdbLearn band s C
  | .rdbCurT band => execRdbCurT band s C
  | .rdbCurGain band => execRdbCurGain band s C
  | .rdbCurQ band => execRdbCurQ band s C
  | .rdbCurLevel band => execRdbCurLevel band s C
  | .rdbHistP05 band => execRdbHistP05 band s C
  | .rdbHistP50 band => execRdbHistP50 band s C
  | .rdbHistP95 band => execRdbHistP95 band s C
  | .rdbNsec band => execRdbNsec band s C
  | .wrgStructure data => execWrgStructure data s C
  | .wrgZeroLat data => execWrgZeroLat data s C
  | .wrgLookahead data => execWrgLookahead data s C
  | .wrgScPresent data => execWrgScPresent data s C
  | .wrgSolo data => execWrgSolo data s C
  | .wrgTrim data => execWrgTrim data s C
  | .wrgEffectOn data => execWrgEffectOn data s C
  | .wrgHq data => execWrgHq data s C
  | .wrgPhaseFlip data => execWrgPhaseFlip data s C
  | .wrgSgcOn data => execWrgSgcOn data s C
  | .wrgMeasure data => execWrgMeasure data s C
  | .wrgRmsMs data => execWrgRmsMs data s C
  | .wrgDecaySel data => execWrgDecaySel data s C
  | .rdgStructure => execRdgStructure s C
  | .rdgZeroLat => execRdgZeroLat s C
  | .rdgLookahead => execRdgLookahead s C
  | .rdgScPresent => execRdgScPresent s C
  | .rdgSolo => execRdgSolo s C
  | .rdgTrim => execRdgTrim s C
  | .rdgEffectOn => execRdgEffectOn s C
  | .rdgHq => execRdgHq s C
  | .rdgPhaseFlip => execRdgPhaseFlip s C
  | .rdgSgcOn => execRdgSgcOn s C
  | .rdgMeasure => execRdgMeasure s C
  | .rdgRmsMs => execRdgRmsMs s C
  | .rdgDecaySel => execRdgDecaySel s C
  | .rdgLatency => execRdgLatency s C
  | .rdgSrate => execRdgSrate s C
  | .rdgMaxblock => execRdgMaxblock s C
  | .rdgSublen => execRdgSublen s C
  | .rdgStatus => execRdgStatus s C
  | .rdgLatSeq => execRdgLatSeq s C
  | .rdgAgain => execRdgAgain s C
  | .rdgEffStruct => execRdgEffStruct s C

/-- One step in configuration `C` (20_memory.md R69, R70, 30_encoding.md R100), as `step`. -/
def stepIn (C : Config V) (s : State V) : Host.Outcome (State V) Fault Refusal :=
  match s.io.cmds with
  | [] => .next s
  | c :: rest =>
    match decode c.word with
    | .instr i => execIn C i (s.takeCmd c rest)
    | .reserved _ => .next ((s.takeCmd c rest).reserved c.word)

end AnyValues

end Sys2Proof.Machine

namespace Sys2Proof

/-! ### The exact reals -/

/-- ARITH, the exact reals (00_scope.md R13): the reference reading. -/
noncomputable def Arith.reals : Arith ℝ where
  sqrt := Real.sqrt
  exp := Real.exp
  ln := Real.log
  log2 := Real.logb 2
  log10 := Real.logb 10
  pow := fun a b => a ^ b
  sin := Real.sin
  cos := Real.cos
  tan := Real.tan
  sinh := Real.sinh
  asinh := Real.arsinh
  floor := fun x => ⌊x⌋
  pi := Real.pi
  ofRat := fun v => (v : ℝ)

/-- The default column of 00_scope.md R9, ARITH included: the spec's own machine is `stepIn Config.reals`. -/
noncomputable def Config.reals : Config ℝ := .ofArith .reals

/-! ### binary64 -/

/-- ARITH, IEEE 754 binary64 (00_scope.md R13), with Lean's `Float`. A binary32's value is a binary64's exactly. `floor` is
used on values below 2^63 only. -/
def Arith.binary64 : Arith Float where
  sqrt := Float.sqrt
  exp := Float.exp
  ln := Float.log
  log2 := Float.log2
  log10 := Float.log10
  pow := Float.pow
  sin := Float.sin
  cos := Float.cos
  tan := Float.tan
  sinh := Float.sinh
  asinh := Float.asinh
  floor := fun x => x.floor.toInt64.toInt
  pi := 3.141592653589793
  ofRat := fun v => Float.ofInt v.num / Float.ofNat v.den

/-- The defaults of 00_scope.md R9 over binary64. -/
def Config.binary64 : Config Float :=
  letI : NatCast Float := ⟨Float.ofNat⟩
  .ofArith .binary64

/-- One step over binary64, evaluated in the order the pseudocode is written (00_scope.md R13). -/
def Machine.stepBinary64 (s : Machine.State Float) : Host.Outcome (Machine.State Float) Machine.Fault Machine.Refusal :=
  letI : NatCast Float := ⟨Float.ofNat⟩
  Machine.stepIn Config.binary64 s

/-- The reset state over binary64. -/
def Machine.State.resetBinary64 : Machine.State Float :=
  letI : NatCast Float := ⟨Float.ofNat⟩
  Machine.State.resetIn Config.binary64

end Sys2Proof
end

