-- ==== Sys2Proof/Safety.lean ====
section
/-! DEFINITION. What a sound state is, in the terms the statements use: the invariants of 10_state.md R22, R24, R32, R34 to
R37, R44 and 45_controller.md R352, and the parts of the state a statement speaks of. -/

namespace Sys2Proof.Machine

/-! ### Registers -/

/-- The legal orders (40_register_commands.md R112). -/
def legalOrders : List Nat := [1, 2, 4, 6, 8, 10, 12, 14, 16]

/-- `lo <= v <= hi`. -/
def Within (lo hi v : Rat) : Prop := lo ≤ v ∧ v ≤ hi

/-- A band register file holds legal values only (10_state.md R21, R22). -/
structure BandRegs.Legal (x : BandRegs) : Prop where
  order : x.order ∈ legalOrders
  freq : Within 10 20000 x.freq
  gain : Within (-30) 30 x.gain
  q : Within (1 / 40) 25 x.q
  tgain : Within (-30) 30 x.tgain
  tq : Within (1 / 40) 25 x.tq
  thresh : Within (-80) 0 x.thresh
  knee : Within (1 / 100) 60 x.knee
  attack : Within 0 1000 x.attack
  release : Within 0 5000 x.release
  sideFreq : Within 10 20000 x.sideFreq
  sideQ : Within (1 / 40) 25 x.sideQ

/-- A global register file holds legal values only (10_state.md R22, R25). -/
structure GlobalRegs.Legal (x : GlobalRegs) : Prop where
  lookahead : Within 0 20 x.lookahead
  solo : x.solo ≤ 16
  trim : Within (-30) 30 x.trim
  rmsMs : Within 0 1000 x.rmsMs

/-- Every register, staged and committed, is legal (10_state.md R22). -/
structure State.RegistersLegal (s : State) : Prop where
  pg : s.pg.Legal
  cg : s.cg.Legal
  staged : ∀ b : Fin 16, s.bands[b].staged.Legal
  comm : ∀ b : Fin 16, s.bands[b].comm.Legal

/-- A register whose flag is not set is already in force: its committed copy equals its staged copy. A write can then not
be lost (20_memory.md R71, R72). -/
structure State.NothingLost {V : Type} (s : State V) : Prop where
  classS : s.pendS = false →
    s.cg.struct = s.pg.struct ∧ s.cg.zeroLat = s.pg.zeroLat ∧ s.cg.lookahead = s.pg.lookahead
  classG : s.pendG = false → ∀ b : Fin 16,
    s.bands[b].comm.active = s.bands[b].staged.active ∧ s.bands[b].comm.stereo = s.bands[b].staged.stereo
  classB : s.pendB = false →
    (∀ b : Fin 16, s.bands[b].comm.bypass = s.bands[b].staged.bypass) ∧
      s.cg.solo = s.pg.solo ∧ s.cg.effectOn = s.pg.effectOn
  bands : ∀ b : Fin 16, s.bands[b].dirty = false → s.bands[b].comm = s.bands[b].comm.takeN s.bands[b].staged
  globals : s.gdirty = false → s.cg = s.cg.takeN s.pg

/-! ### Derived and signal state -/

/-- Every stored digital section of a band has a0 = 1 (10_state.md R44, 41_coefficient_designer.md R188). -/
structure Band.Normalised {V : Type} [One V] (b : Band V) : Prop where
  base : ∀ c ∈ b.coefs.baseSecs, c.a0 = 1
  cur : ∀ c ∈ b.coefs.curSecs, c.a0 = 1
  side : ∀ c ∈ b.coefs.sideSec, c.a0 = 1

/-- Every stored digital section has a0 = 1 (10_state.md R44). -/
structure State.Normalised {V : Type} [One V] (s : State V) : Prop where
  bands : ∀ b : Fin 16, s.bands[b].Normalised
  solo : ∀ c ∈ s.soloSec, c.a0 = 1

/-- A histogram has 80 non-negative bins whose sum is its total (10_state.md R34, 43_detector_histogram.md R273). -/
structure Hist.Sound (h : Hist) : Prop where
  length : h.bins.length = 80
  nonneg : ∀ x ∈ h.bins, 0 ≤ x
  total : h.total = h.bins.sum

/-- Every histogram is sound. -/
def State.HistogramsSound (s : State) : Prop := ∀ b : Fin 16, s.bands[b].hist.Sound

/-- Interpolation factors lie in [0, 1] and a static band's is 0 (10_state.md R32, 43_detector_histogram.md R263, R267);
a static band runs its base design (10_state.md R30). -/
structure Band.FactorSound (b : Band) : Prop where
  t : Within 0 1 b.det.t
  frozen : Within 0 1 b.coefs.tFrozen
  static : b.comm.dynOn = false → b.det.t = 0 ∧ b.coefs.curSecs = b.coefs.baseSecs

/-- Every band's factor is sound. -/
def State.FactorsSound (s : State) : Prop := ∀ b : Fin 16, s.bands[b].FactorSound

/-- The stored LATENCY is the latency of the committed registers (45_controller.md R352). -/
def State.LatencyCurrent {V : Type} [One V] [NatCast V] [Add V] [Mul V] [Div V] (s : State V)
    (C : Config V := by first | assumption | exact Sys2Proof.Config.standard) : Prop := s.latency = s.latencyOf

/-- Coefficients are the design of the committed registers (20_memory.md R77). -/
structure State.Coherent (s : State) : Prop where
  base : ∀ b : Fin 16, s.bands[b].coefs.baseSecs =
    design s.bands[b].comm.ftype s.bands[b].comm.freq s.bands[b].comm.gain s.bands[b].comm.q s.bands[b].comm.order s.fs
  side : ∀ b : Fin 16,
    s.bands[b].coefs.sideSec = (design .bandPass s.bands[b].comm.sideFreq 0 s.bands[b].comm.sideQ 2 s.fs).head?

/-- A ring of length `n`: its position is inside it, or it is empty and the position is 0 (20_memory.md R66). -/
def RingAt (n len pos : Nat) : Prop := len = n ∧ (pos < n ∨ n = 0 ∧ pos = 0)

/-- Every buffer of a band has the size the spec gives it (10_state.md R31, R32). -/
structure Band.Sized (w : Nat) (b : Band) : Prop where
  rms : RingAt w b.det.rms.ring.length b.det.rms.pos
  slot0 : b.fstate.s0.length = 8
  slot1 : b.fstate.s1.length = 8

/-- Every correction history has its length, whatever FS and the structure (10_state.md R37). -/
def State.CorrSized (s : State) : Prop :=
  ∀ g k, RingAt Config.standard.corrHistLen ((s.corr.get g).get k).hist.length ((s.corr.get g).get k).cpos

/-- Every buffer of a prepared block has the size PREPARE and the commits give it (10_state.md R31 to R37, R41,
43_detector_histogram.md R255, 45_controller.md R344, R362). -/
structure State.Sized (s : State) : Prop where
  fs : 0 < s.fs
  sublen : s.sublen = subLen s.fs
  fifoIn : RingAt s.sublen s.fifo.inp.length s.fifo.pos
  fifoOut : s.fifo.out.length = s.sublen
  la : RingAt (laFrames s.cg s.fs) s.la.buf.length s.la.pos
  w : s.w = rmsWindow s.cg s.fs
  base : ∀ m, RingAt s.w (s.base.get m).ring.length (s.base.get m).pos
  bands : ∀ b : Fin 16, s.bands[b].Sized s.w
  corr : s.CorrSized

/-- A prepared block is sized; the correction histories have their length before PREPARE too. -/
def State.SizedWhenPrepared (s : State) : Prop := s.CorrSized ∧ (s.prepared = true → s.Sized)

/-! ### Parts of the state -/

/-- A band without what CTRL's writes may change: its staged registers and its dirty flag. -/
def Band.audioPart (b : Band) : Band := { b with staged := BandRegs.reset, dirty := false }

/-- The state without what the register commands may change: staged registers, flags, and the words at the ports. What is
left is what AUDIO alone writes (60_exceptions.md R390). -/
def State.audioPart (s : State) : State :=
  { s with
    bands := mapV Band.audioPart s.bands
    pg := GlobalRegs.reset
    gdirty := false
    pendS := false
    pendG := false
    pendB := false
    io := { s.io with cmds := [], respCtrl := [], respAudio := [], cur := .ctrl } }

/-- A band without its display registers. -/
def Band.hideDisplay (b : Band) : Band := { b with disp := Display.reset }

/-- The state without what is published: the display registers, the publication draws, and the response words. -/
def State.hideDisplay (s : State) : State :=
  { s with
    bands := mapV Band.hideDisplay s.bands
    io := { s.io with publish := [], respCtrl := [], respAudio := [] } }

/-- Every sample waiting on the audio-in stream is finite (93_implementation_defined.md U1). -/
def State.SamplesFinite (s : State) : Prop := ∀ w ∈ s.io.audioIn, ∃ v, f32val w = .fin v

/-! ### The register commands by register -/

/-- The WRB command of a band register. -/
def BandReg.write (r : BandReg) (band : Nat) (data : DataWord) : Instr :=
  match r with
  | .active => .wrbActive band data
  | .bypass => .wrbBypass band data
  | .ftype => .wrbFtype band data
  | .order => .wrbOrder band data
  | .freq => .wrbFreq band data
  | .gain => .wrbGain band data
  | .q => .wrbQ band data
  | .stereo => .wrbStereo band data
  | .dynOn => .wrbDynOn band data
  | .tgain => .wrbTgain band data
  | .tq => .wrbTq band data
  | .thresh => .wrbThresh band data
  | .knee => .wrbKnee band data
  | .attack => .wrbAttack band data
  | .release => .wrbRelease band data
  | .relThresh => .wrbRelThresh band data
  | .sideFreq => .wrbSideFreq band data
  | .sideQ => .wrbSideQ band data
  | .sideSwap => .wrbSideSwap band data
  | .learn => .wrbLearn band data

/-- The RDB command of a band register. -/
def BandReg.read (r : BandReg) (band : Nat) : Instr :=
  match r with
  | .active => .rdbActive band
  | .bypass => .rdbBypass band
  | .ftype => .rdbFtype band
  | .order => .rdbOrder band
  | .freq => .rdbFreq band
  | .gain => .rdbGain band
  | .q => .rdbQ band
  | .stereo => .rdbStereo band
  | .dynOn => .rdbDynOn band
  | .tgain => .rdbTgain band
  | .tq => .rdbTq band
  | .thresh => .rdbThresh band
  | .knee => .rdbKnee band
  | .attack => .rdbAttack band
  | .release => .rdbRelease band
  | .relThresh => .rdbRelThresh band
  | .sideFreq => .rdbSideFreq band
  | .sideQ => .rdbSideQ band
  | .sideSwap => .rdbSideSwap band
  | .learn => .rdbLearn band

/-- The RDB command of a display register. -/
def DispReg.read (r : DispReg) (band : Nat) : Instr :=
  match r with
  | .curT => .rdbCurT band
  | .curGain => .rdbCurGain band
  | .curQ => .rdbCurQ band
  | .curLevel => .rdbCurLevel band
  | .histP05 => .rdbHistP05 band
  | .histP50 => .rdbHistP50 band
  | .histP95 => .rdbHistP95 band
  | .nsec => .rdbNsec band

/-- The WRG command of a global register. -/
def GlobalReg.write (r : GlobalReg) (data : DataWord) : Instr :=
  match r with
  | .struct => .wrgStructure data
  | .zeroLat => .wrgZeroLat data
  | .lookahead => .wrgLookahead data
  | .scPresent => .wrgScPresent data
  | .solo => .wrgSolo data
  | .trim => .wrgTrim data
  | .effectOn => .wrgEffectOn data
  | .hq => .wrgHq data
  | .phaseFlip => .wrgPhaseFlip data
  | .sgcOn => .wrgSgcOn data
  | .measure => .wrgMeasure data
  | .rmsMs => .wrgRmsMs data
  | .decaySel => .wrgDecaySel data

/-- The RDG command of a writable global register. -/
def GlobalReg.read (r : GlobalReg) : Instr :=
  match r with
  | .struct => .rdgStructure
  | .zeroLat => .rdgZeroLat
  | .lookahead => .rdgLookahead
  | .scPresent => .rdgScPresent
  | .solo => .rdgSolo
  | .trim => .rdgTrim
  | .effectOn => .rdgEffectOn
  | .hq => .rdgHq
  | .phaseFlip => .rdgPhaseFlip
  | .sgcOn => .rdgSgcOn
  | .measure => .rdgMeasure
  | .rmsMs => .rdgRmsMs
  | .decaySel => .rdgDecaySel

/-! ### Register writes, said outright -/

/-- The state with one band's staged file changed by `f`. -/
def State.stage (s : State) (b : Fin 16) (f : BandRegs → BandRegs) : State :=
  { s with bands := s.bands.set b { s.bands[b] with staged := f s.bands[b].staged } }

/-- The state with one band's staged file changed by `f` and its DIRTY flag set. -/
def State.stageN (s : State) (b : Fin 16) (f : BandRegs → BandRegs) : State :=
  { s with bands := s.bands.set b { s.bands[b] with staged := f s.bands[b].staged, dirty := true } }

/-- `mk data` writes a class-N f32 register of band `b` with range [lo, hi] (30_encoding.md R95): a NaN is ignored entirely,
an infinity stores the bound of its sign, a finite value is stored clamped, and DIRTY is set. Nothing else changes. -/
def StoresBand (s : State) (b : Fin 16) (mk : Nat → DataWord → Instr) (put : Rat → BandRegs → BandRegs) (lo hi : Rat) : Prop :=
  ∀ data,
    (f32val data = .nan → exec (mk b data) s = .next s) ∧
    (f32val data = .inf true → exec (mk b data) s = .next (s.stageN b (put lo))) ∧
    (f32val data = .inf false → exec (mk b data) s = .next (s.stageN b (put hi))) ∧
    (∀ v, f32val data = .fin v → exec (mk b data) s = .next (s.stageN b (put (Arith.clamp v lo hi))))

/-- `mk data` writes a global f32 register with range [lo, hi] (30_encoding.md R95), `flag` setting the flag of its class. -/
def StoresGlobal (s : State) (mk : DataWord → Instr) (put : Rat → GlobalRegs → GlobalRegs) (flag : State → State)
    (lo hi : Rat) : Prop :=
  ∀ data,
    (f32val data = .nan → exec (mk data) s = .next s) ∧
    (f32val data = .inf true → exec (mk data) s = .next (flag { s with pg := put lo s.pg })) ∧
    (f32val data = .inf false → exec (mk data) s = .next (flag { s with pg := put hi s.pg })) ∧
    (∀ v, f32val data = .fin v → exec (mk data) s = .next (flag { s with pg := put (Arith.clamp v lo hi) s.pg }))

/-- The kinds of the writable registers with their ranges (30_encoding.md R94). -/
inductive RegKind where
  | bool
  | enum (hi : Nat)
  | order
  | f32 (lo hi : Rat)
  deriving DecidableEq, Repr

/-- The word a register of a kind reads back after a write of a word (40_register_commands.md R162), none where the write is
ignored. -/
def RegKind.readBack (k : RegKind) (data : DataWord) : Option DataWord :=
  match k with
  | .bool => some (if data = 0 then 0 else 1)
  | .enum hi => some (if data.toNat ≤ hi then data else BitVec.ofNat 32 hi)
  | .order =>
    some (if data.toNat ≤ 1 then 1 else if 16 ≤ data.toNat then 16 else if data.toNat % 2 = 0 then data else data - 1)
  | .f32 lo hi =>
    match f32val data with
    | .nan => none
    | .inf true => some (f32enc lo)
    | .inf false => some (f32enc hi)
    | .fin v => some (f32enc (Arith.clamp v lo hi))

/-- The kind and range columns of 10_state.md R21. -/
def BandReg.kind : BandReg → RegKind
  | .active | .bypass | .dynOn | .relThresh | .sideSwap | .learn => .bool
  | .ftype => .enum 8
  | .stereo => .enum 4
  | .order => .order
  | .freq | .sideFreq => .f32 10 20000
  | .gain | .tgain => .f32 (-30) 30
  | .q | .tq | .sideQ => .f32 (1 / 40) 25
  | .thresh => .f32 (-80) 0
  | .knee => .f32 (1 / 100) 60
  | .attack => .f32 0 1000
  | .release => .f32 0 5000

/-- The kind and range columns of 10_state.md R25. -/
def GlobalReg.kind : GlobalReg → RegKind
  | .zeroLat | .scPresent | .effectOn | .hq | .phaseFlip | .sgcOn | .measure => .bool
  | .struct => .enum 5
  | .solo => .enum 16
  | .decaySel => .enum 1
  | .lookahead => .f32 0 20
  | .trim => .f32 (-30) 30
  | .rmsMs => .f32 0 1000

end Sys2Proof.Machine
end

