-- ==== Sys2Proof/Certificates/Slice0/Obligations.lean ====
section
/-! DEFINITION. The statements for the provers. Each docstring names the rules of spec/ the statement formalises; where a
statement rests on a choice of the model it names the log entry. -/

section Statements

open Sys2Proof Sys2Proof.Machine

/-! ### Encoding -/

/-- Every well-formed command is what its word decodes to (30_encoding.md R86 to R91, R102). -/
def Obligations.DecodeEncode : Prop := ∀ i : Instr, i.wellFormed = true → decode (encode i) = .instr i

/-- A word that decodes to a command is that command's only word, and the command is well-formed: no two words mean the same
and no bit of a word is dropped (R90, R104). -/
def Obligations.EncodeDecode : Prop :=
  ∀ (w : CmdWord) (i : Instr), decode w = .instr i → i.wellFormed = true ∧ encode i = w

/-- Which words are reserved, field by field: an undefined opcode, a non-zero must-be-zero field, or an undefined register
of the access class (R90, R100, 20_memory.md R67). -/
def Obligations.ReservedWords : Prop :=
  ∀ w : CmdWord, (∃ r, decode w = .reserved r) ↔
    let op := bitField w.toNat 56 8
    let band := bitField w.toNat 48 8
    let reg := bitField w.toNat 40 8
    let mbz := bitField w.toNat 32 8
    let data := bitField w.toNat 0 32
    (0x04 ≤ op ∧ op ≤ 0x0F) ∨ 0x14 ≤ op ∨ ((op = 0x00 ∨ op = 0x01) ∧ bitField w.toNat 0 56 ≠ 0) ∨
    (op = 0x03 ∧ bitField w.toNat 32 24 ≠ 0) ∨ (0x10 ≤ op ∧ op ≤ 0x13 ∧ mbz ≠ 0) ∨
    ((op = 0x11 ∨ op = 0x13) ∧ data ≠ 0) ∨ ((op = 0x12 ∨ op = 0x13) ∧ band ≠ 0) ∨
    (op = 0x10 ∧ 0x14 ≤ reg) ∨ (op = 0x11 ∧ (0x14 ≤ reg ∧ reg ≤ 0x1F ∨ 0x28 ≤ reg)) ∨
    (op = 0x12 ∧ 0x0D ≤ reg) ∨ (op = 0x13 ∧ (0x0D ≤ reg ∧ reg ≤ 0x1F ∨ 0x28 ≤ reg))

/-- Words written out from the fields of R86 to R89 and the register numbers of 10_state.md, one or more of each opcode,
decode to the command they stand for. -/
def Obligations.SampleWords : Prop :=
  decode 0x0000000000000000 = .instr .nop ∧
  decode 0x0100000000000000 = .instr .reset ∧
  decode 0x020002000000BB80 = .instr (.prepare 512 48000) ∧
  decode 0x03000000000001E0 = .instr (.process 480) ∧
  decode 0x10000400447A0000 = .instr (.wrbFreq 0 0x447A0000) ∧
  decode 0x1001070000000001 = .instr (.wrbStereo 1 1) ∧
  decode 0x1100060000000000 = .instr (.rdbQ 0) ∧
  decode 0x1100250000000000 = .instr (.rdbHistP50 0) ∧
  decode 0x1200000000000003 = .instr (.wrgStructure 3) ∧
  decode 0x12000B007F800000 = .instr (.wrgRmsMs 0x7F800000) ∧
  decode 0x1300040000000000 = .instr .rdgSolo ∧
  decode 0x1300240000000000 = .instr .rdgStatus

/-! ### One step -/

/-- When the command at the head of the merged stream decodes to a command, the step is that command's effect on the state
with the word taken off the stream and its port noted (20_memory.md R69, 60_exceptions.md R388; log entry 4). -/
def Obligations.StepRunsDecoded : Prop :=
  ∀ (s : State) (c : PortCmd) (rest : List PortCmd) (i : Instr),
    s.io.cmds = c :: rest → decode c.word = .instr i →
    step s = exec i { s with io := { s.io with cmds := rest, cur := c.port } }

/-- A reserved word is a step that changes nothing; a reserved RDB or RDG answers 0 on its port (R100). A response is one word
appended to the responses of the port its command came from, and nothing else (R92, R388). With no command waiting the block
stays as it is (log entry 4). -/
def Obligations.StepReserved : Prop :=
  (∀ (s : State) (c : PortCmd) (rest : List PortCmd) (r : Reserved),
    s.io.cmds = c :: rest → decode c.word = .reserved r →
    step s = .next
      (if bitField c.word.toNat 56 8 = 0x11 ∨ bitField c.word.toNat 56 8 = 0x13 then
        ({ s with io := { s.io with cmds := rest, cur := c.port } } : State).respond 0
      else { s with io := { s.io with cmds := rest, cur := c.port } })) ∧
  (∀ (s : State) (r : DataWord),
    (s.io.cur = .ctrl → s.respond r = { s with io := { s.io with respCtrl := s.io.respCtrl ++ [r] } }) ∧
    (s.io.cur = .audio → s.respond r = { s with io := { s.io with respAudio := s.io.respAudio ++ [r] } })) ∧
  ∀ s : State, s.io.cmds = [] → step s = .next s

/-- The block raises nothing: from any state whose waiting samples are finite every step completes, whatever the command's
bits (60_exceptions.md R380, R384; the premise is 93_implementation_defined.md U1, log entry 11). -/
def Obligations.NothingRaises : Prop := ∀ s : State, s.SamplesFinite → ∃ t, step s = .next t

/-- Only PROCESS stops, only where it reads a sample that is not finite, and it does stop where a main sample it reads is not
finite (30_encoding.md R99, 60_exceptions.md R384, 93_implementation_defined.md U1; log entry 11). -/
def Obligations.ProcessRefuses : Prop :=
  (∀ (i : Instr) (s : State) (r : Refusal), exec i s = .refused r →
    r = .nonFiniteSample ∧ ∃ n, i = .process n ∧
      ∃ w ∈ s.io.audioIn.take (4 * min n (s.io.audioIn.length / 4)), ∀ v, f32val w ≠ .fin v) ∧
  ∀ (s : State) (n k : Nat) (w : DataWord), k < min n (s.io.audioIn.length / 4) →
    (s.io.audioIn[4 * k]? = some w ∨ s.io.audioIn[4 * k + 1]? = some w) → (∀ v, f32val w ≠ .fin v) →
    exec (.process n) s = .refused .nonFiniteSample

/-! ### Operands -/

/-- `legal_order(u)` is 1 for u <= 1, 16 for u >= 16, and between them u if it is even and u - 1 if it is odd; its results are
exactly 1, 2, 4, 6, 8, 10, 12, 14 and 16 (40_register_commands.md R112). -/
def Obligations.LegalOrder : Prop :=
  (∀ u, (u ≤ 1 → legalOrder u = 1) ∧ (16 ≤ u → legalOrder u = 16) ∧
    (1 < u → u < 16 → u % 2 = 0 → legalOrder u = u) ∧ (1 < u → u < 16 → u % 2 = 1 → legalOrder u = u - 1)) ∧
  ∀ v, (∃ u, legalOrder u = v) ↔ v ∈ ([1, 2, 4, 6, 8, 10, 12, 14, 16] : List Nat)

/-- `f32val` of a word put together from its sign, exponent and fraction (30_encoding.md R95). -/
def Obligations.F32Value : Prop :=
  ∀ s e m : Nat, s < 2 → e < 256 → m < 2 ^ 23 →
    let w : DataWord := BitVec.ofNat 32 (s * 2 ^ 31 + e * 2 ^ 23 + m)
    (e = 255 → m ≠ 0 → f32val w = .nan) ∧
    (e = 255 → m = 0 → f32val w = .inf (decide (s = 1))) ∧
    (e = 0 → f32val w = .fin ((-1) ^ s * (m : Rat) / 2 ^ 149)) ∧
    (0 < e → e < 255 → f32val w = .fin ((-1) ^ s * (2 ^ 23 + m : Rat) * 2 ^ e / 2 ^ 150))

/-- `f32enc` after `f32val` is the identity on the finite words, but for the word of -0, which reads as 0 (30_encoding.md R95,
R99, 45_controller.md R332; log entry 10). -/
def Obligations.F32RoundTrip : Prop :=
  ∀ (w : DataWord) (v : Rat), f32val w = .fin v → w ≠ 0x80000000 → f32enc v = w

/-! ### Register commands -/

/-- NOP: its word is all zeros, no state changes, no response (40_register_commands.md R106). -/
def Obligations.NopChangesNothing : Prop :=
  encode .nop = 0x0000000000000000 ∧ decode 0x0000000000000000 = .instr .nop ∧ ∀ s : State, exec .nop s = .next s

/-- WRB of the six bool registers: any word but 0 stores 1, and the flag of the register's class is set: PEND_G for ACTIVE,
PEND_B for BYPASS, DIRTY for the others. Nothing else changes (30_encoding.md R96, 40_register_commands.md R108, R113, R114,
R121, R128, R131, R132). -/
def Obligations.WrbBool : Prop :=
  ∀ (s : State) (b : Fin 16) (d : DataWord),
    exec (.wrbActive b d) s = .next { s.stage b (fun x => { x with active := decide (d ≠ 0) }) with pendG := true } ∧
    exec (.wrbBypass b d) s = .next { s.stage b (fun x => { x with bypass := decide (d ≠ 0) }) with pendB := true } ∧
    exec (.wrbDynOn b d) s = .next (s.stageN b fun x => { x with dynOn := decide (d ≠ 0) }) ∧
    exec (.wrbRelThresh b d) s = .next (s.stageN b fun x => { x with relThresh := decide (d ≠ 0) }) ∧
    exec (.wrbSideSwap b d) s = .next (s.stageN b fun x => { x with sideSwap := decide (d ≠ 0) }) ∧
    exec (.wrbLearn b d) s = .next (s.stageN b fun x => { x with learn := decide (d ≠ 0) })

/-- WRB of FTYPE, STEREO and ORDER: a code above the last stores the last, an order is made legal, and the flag of the class
is set: PEND_G for STEREO, DIRTY for the others. Nothing else changes (30_encoding.md R97, R98, 40_register_commands.md R115,
R116, R120). -/
def Obligations.WrbCode : Prop :=
  ∀ (s : State) (b : Fin 16) (d : DataWord),
    (∀ y : FType, (d.toNat = y.code ∨ 8 < d.toNat ∧ y = .tiltShelf) →
      exec (.wrbFtype b d) s = .next (s.stageN b fun x => { x with ftype := y })) ∧
    (∀ y : Stereo, (d.toNat = y.code ∨ 4 < d.toNat ∧ y = .side) →
      exec (.wrbStereo b d) s = .next { s.stage b (fun x => { x with stereo := y }) with pendG := true }) ∧
    exec (.wrbOrder b d) s = .next (s.stageN b fun x => { x with order := legalOrder d.toNat })

/-- WRB of the eleven f32 registers: each stores the clamp of the word's value to its range and sets DIRTY, and ignores a NaN
(30_encoding.md R95, 40_register_commands.md R108, R117 to R119, R122 to R127, R129, R130; the ranges are the defaults of
00_scope.md R9, log entry 2). -/
def Obligations.WrbF32 : Prop :=
  ∀ (s : State) (b : Fin 16),
    StoresBand s b .wrbFreq (fun v x => { x with freq := v }) 10 20000 ∧
    StoresBand s b .wrbGain (fun v x => { x with gain := v }) (-30) 30 ∧
    StoresBand s b .wrbQ (fun v x => { x with q := v }) (1 / 40) 25 ∧
    StoresBand s b .wrbTgain (fun v x => { x with tgain := v }) (-30) 30 ∧
    StoresBand s b .wrbTq (fun v x => { x with tq := v }) (1 / 40) 25 ∧
    StoresBand s b .wrbThresh (fun v x => { x with thresh := v }) (-80) 0 ∧
    StoresBand s b .wrbKnee (fun v x => { x with knee := v }) (1 / 100) 60 ∧
    StoresBand s b .wrbAttack (fun v x => { x with attack := v }) 0 1000 ∧
    StoresBand s b .wrbRelease (fun v x => { x with release := v }) 0 5000 ∧
    StoresBand s b .wrbSideFreq (fun v x => { x with sideFreq := v }) 10 20000 ∧
    StoresBand s b .wrbSideQ (fun v x => { x with sideQ := v }) (1 / 40) 25

/-- RDB of the 20 writable registers answers the staged copy in the register's kind and changes nothing else
(40_register_commands.md R109, R113 to R132, 30_encoding.md R92). -/
def Obligations.RdbStaged : Prop :=
  ∀ (s : State) (b : Fin 16),
    let x := s.bands[b].staged
    let word (v : Bool) : DataWord := if v then 1 else 0
    exec (.rdbActive b) s = .next (s.respond (word x.active)) ∧
    exec (.rdbBypass b) s = .next (s.respond (word x.bypass)) ∧
    exec (.rdbFtype b) s = .next (s.respond (BitVec.ofNat 32 x.ftype.code)) ∧
    exec (.rdbOrder b) s = .next (s.respond (BitVec.ofNat 32 x.order)) ∧
    exec (.rdbFreq b) s = .next (s.respond (f32enc x.freq)) ∧
    exec (.rdbGain b) s = .next (s.respond (f32enc x.gain)) ∧
    exec (.rdbQ b) s = .next (s.respond (f32enc x.q)) ∧
    exec (.rdbStereo b) s = .next (s.respond (BitVec.ofNat 32 x.stereo.code)) ∧
    exec (.rdbDynOn b) s = .next (s.respond (word x.dynOn)) ∧
    exec (.rdbTgain b) s = .next (s.respond (f32enc x.tgain)) ∧
    exec (.rdbTq b) s = .next (s.respond (f32enc x.tq)) ∧
    exec (.rdbThresh b) s = .next (s.respond (f32enc x.thresh)) ∧
    exec (.rdbKnee b) s = .next (s.respond (f32enc x.knee)) ∧
    exec (.rdbAttack b) s = .next (s.respond (f32enc x.attack)) ∧
    exec (.rdbRelease b) s = .next (s.respond (f32enc x.release)) ∧
    exec (.rdbRelThresh b) s = .next (s.respond (word x.relThresh)) ∧
    exec (.rdbSideFreq b) s = .next (s.respond (f32enc x.sideFreq)) ∧
    exec (.rdbSideQ b) s = .next (s.respond (f32enc x.sideQ)) ∧
    exec (.rdbSideSwap b) s = .next (s.respond (word x.sideSwap)) ∧
    exec (.rdbLearn b) s = .next (s.respond (word x.learn))

/-- RDB of the 8 display registers answers what was last published and changes nothing else (40_register_commands.md R109,
R133 to R140). -/
def Obligations.RdbDisplay : Prop :=
  ∀ (s : State) (b : Fin 16),
    let x := s.bands[b].disp
    exec (.rdbCurT b) s = .next (s.respond (f32enc x.curT)) ∧
    exec (.rdbCurGain b) s = .next (s.respond (f32enc x.curGain)) ∧
    exec (.rdbCurQ b) s = .next (s.respond (f32enc x.curQ)) ∧
    exec (.rdbCurLevel b) s = .next (s.respond (f32enc x.curLevel)) ∧
    exec (.rdbHistP05 b) s = .next (s.respond (f32enc x.histP05)) ∧
    exec (.rdbHistP50 b) s = .next (s.respond (f32enc x.histP50)) ∧
    exec (.rdbHistP95 b) s = .next (s.respond (f32enc x.histP95)) ∧
    exec (.rdbNsec b) s = .next (s.respond (BitVec.ofNat 32 x.nsec))

/-- A band field above 15 addresses nothing: a write does nothing, a read answers 0 (30_encoding.md R90, 40_register_commands.md
R108, R109, 60_exceptions.md R382). -/
def Obligations.NoSuchBand : Prop :=
  ∀ (s : State) (b : Nat) (d : DataWord), 16 ≤ b →
    (∀ r : BandReg, exec (r.write b d) s = .next s ∧ exec (r.read b) s = .next (s.respond 0)) ∧
    ∀ r : DispReg, exec (r.read b) s = .next (s.respond 0)

/-- WRG of the registers that are no f32: bools store 1 for any word but 0, codes above the last store the last, and the flag
of the class is set: PEND_S, PEND_B or GDIRTY. Nothing else changes (30_encoding.md R96, R97, 40_register_commands.md R110, R141,
R142, R144, R145, R147 to R151, R153). -/
def Obligations.WrgCode : Prop :=
  ∀ (s : State) (d : DataWord),
    (∀ y : Structure, (d.toNat = y.code ∨ 5 < d.toNat ∧ y = .linear) →
      exec (.wrgStructure d) s = .next { s with pg := { s.pg with struct := y }, pendS := true }) ∧
    exec (.wrgZeroLat d) s = .next { s with pg := { s.pg with zeroLat := decide (d ≠ 0) }, pendS := true } ∧
    exec (.wrgScPresent d) s = .next { s with pg := { s.pg with scPresent := decide (d ≠ 0) }, gdirty := true } ∧
    exec (.wrgSolo d) s = .next { s with pg := { s.pg with solo := min d.toNat 16 }, pendB := true } ∧
    exec (.wrgEffectOn d) s = .next { s with pg := { s.pg with effectOn := decide (d ≠ 0) }, pendB := true } ∧
    exec (.wrgHq d) s = .next { s with pg := { s.pg with hq := decide (d ≠ 0) }, gdirty := true } ∧
    exec (.wrgPhaseFlip d) s = .next { s with pg := { s.pg with phaseFlip := decide (d ≠ 0) }, gdirty := true } ∧
    exec (.wrgSgcOn d) s = .next { s with pg := { s.pg with sgcOn := decide (d ≠ 0) }, gdirty := true } ∧
    exec (.wrgMeasure d) s = .next { s with pg := { s.pg with measure := decide (d ≠ 0) }, gdirty := true } ∧
    exec (.wrgDecaySel d) s = .next { s with pg := { s.pg with decaySlow := decide (1 ≤ d.toNat) }, gdirty := true }

/-- WRG of LOOKAHEAD, TRIM and RMS_MS: each stores the clamp of the word's value to its range and sets PEND_S or GDIRTY, and
ignores a NaN (30_encoding.md R95, 40_register_commands.md R110, R143, R146, R152; log entry 2). -/
def Obligations.WrgF32 : Prop :=
  ∀ s : State,
    StoresGlobal s .wrgLookahead (fun v x => { x with lookahead := v }) (fun t => { t with pendS := true }) 0 20 ∧
    StoresGlobal s .wrgTrim (fun v x => { x with trim := v }) (fun t => { t with gdirty := true }) (-30) 30 ∧
    StoresGlobal s .wrgRmsMs (fun v x => { x with rmsMs := v }) (fun t => { t with gdirty := true }) 0 1000

/-- RDG of the 13 writable registers answers the staged copy in the register's kind and changes nothing else
(40_register_commands.md R111, R141 to R153). -/
def Obligations.RdgStaged : Prop :=
  ∀ s : State,
    let x := s.pg
    let word (v : Bool) : DataWord := if v then 1 else 0
    exec .rdgStructure s = .next (s.respond (BitVec.ofNat 32 x.struct.code)) ∧
    exec .rdgZeroLat s = .next (s.respond (word x.zeroLat)) ∧
    exec .rdgLookahead s = .next (s.respond (f32enc x.lookahead)) ∧
    exec .rdgScPresent s = .next (s.respond (word x.scPresent)) ∧
    exec .rdgSolo s = .next (s.respond (BitVec.ofNat 32 x.solo)) ∧
    exec .rdgTrim s = .next (s.respond (f32enc x.trim)) ∧
    exec .rdgEffectOn s = .next (s.respond (word x.effectOn)) ∧
    exec .rdgHq s = .next (s.respond (word x.hq)) ∧
    exec .rdgPhaseFlip s = .next (s.respond (word x.phaseFlip)) ∧
    exec .rdgSgcOn s = .next (s.respond (word x.sgcOn)) ∧
    exec .rdgMeasure s = .next (s.respond (word x.measure)) ∧
    exec .rdgRmsMs s = .next (s.respond (f32enc x.rmsMs)) ∧
    exec .rdgDecaySel s = .next (s.respond (word x.decaySlow))

/-- RDG of the 8 read-only registers (40_register_commands.md R154 to R161); EFF_STRUCT is MINPHASE while zero latency overrides
a correcting STRUCTURE, and the committed STRUCTURE otherwise (44_structure_correction.md R291). -/
def Obligations.RdgReadOnly : Prop :=
  ∀ s : State,
    exec .rdgLatency s = .next (s.respond (BitVec.ofNat 32 s.latency)) ∧
    exec .rdgSrate s = .next (s.respond (BitVec.ofNat 32 s.fs)) ∧
    exec .rdgMaxblock s = .next (s.respond (BitVec.ofNat 32 s.maxblock)) ∧
    exec .rdgSublen s = .next (s.respond (BitVec.ofNat 32 s.sublen)) ∧
    exec .rdgStatus s = .next (s.respond (BitVec.ofNat 32
      ((if s.prepared then 1 else 0) + (if s.pendS then 2 else 0) + (if s.pendG then 4 else 0) + (if s.pendB then 8 else 0) +
        (if s.gdirty then 16 else 0)))) ∧
    exec .rdgLatSeq s = .next (s.respond s.latSeq) ∧
    exec .rdgAgain s = .next (s.respond (f32enc s.again)) ∧
    exec .rdgEffStruct s = .next (s.respond
      (if s.cg.zeroLat = true ∧ (s.cg.struct = .matched ∨ s.cg.struct = .mixed ∨ s.cg.struct = .linear) then 0
      else BitVec.ofNat 32 s.cg.struct.code))

/-- After a WRB or WRG that is not ignored the matching read answers the encoding of the decoded value, and an ignored write
changes nothing (40_register_commands.md R162). The kinds are those of 10_state.md R21 and R25; the ranges of the f32 registers
are the defaults of 00_scope.md R9, which is log entry 2 (DESIGN CHOICE). -/
def Obligations.ReadBack : Prop :=
  (∀ (s : State) (b : Fin 16) (r : BandReg) (d : DataWord),
    (r.kind.readBack d = none → exec (r.write b d) s = .next s) ∧
    (∀ w, r.kind.readBack d = some w →
      ∃ t, exec (r.write b d) s = .next t ∧ exec (r.read b) t = .next (t.respond w))) ∧
  ∀ (s : State) (r : GlobalReg) (d : DataWord),
    (r.kind.readBack d = none → exec (r.write d) s = .next s) ∧
    (∀ w, r.kind.readBack d = some w → ∃ t, exec (r.write d) s = .next t ∧ exec r.read t = .next (t.respond w))

/-- No command but RESET, PREPARE and PROCESS changes anything but staged registers, flags and the words at the ports
(60_exceptions.md R388, R390, 40_register_commands.md R105, 20_memory.md R82). -/
def Obligations.RegisterCommandsLeaveAudio : Prop :=
  ∀ (i : Instr) (s t : State), i ≠ .reset → (∀ m f, i ≠ .prepare m f) → (∀ n, i ≠ .process n) →
    exec i s = .next t → t.audioPart = s.audioPart

/-! ### RESET and PREPARE -/

/-- RESET: every item takes its reset value, and nothing is signalled or taken at the ports (40_register_commands.md R107,
70_reset_and_hazards.md R411, 10_state.md R37; that the ports' words stay is log entry 8). The length 4097 of a correction
history is 2*M_max + 1 at the default sizes, log entries 2 and 17 (DESIGN CHOICE): R37 says only that H is at least that. -/
def Obligations.ResetValues : Prop :=
  ∀ s : State, ∃ t, exec .reset s = .next t ∧ t.io = s.io ∧
    (∀ b : Fin 16,
      let x := t.bands[b]
      x.staged =
        { active := false, bypass := false, ftype := .peak, order := 2, freq := 1000, gain := 0, q := 11863283 / 2 ^ 24,
          stereo := .st, dynOn := false, tgain := 0, tq := 11863283 / 2 ^ 24, thresh := -20, knee := 6, attack := 50,
          release := 500, relThresh := false, sideFreq := 1000, sideQ := 11863283 / 2 ^ 24, sideSwap := false,
          learn := false } ∧
      x.comm = x.staged ∧ x.dirty = false ∧
      x.disp =
        { curT := 0, curGain := 0, curQ := 11863283 / 2 ^ 24, curLevel := -120, histP05 := 80, histP50 := 80, histP95 := 80,
          nsec := 1 } ∧
      x.coefs.baseSpecs = [] ∧ x.coefs.baseSecs = [] ∧ x.coefs.sideSec = none ∧ x.coefs.curSecs = [] ∧
      (∀ k, x.fstate.get k = List.replicate 8 ⟨0, 0⟩ ∧ x.det.sstate.get k = ⟨0, 0⟩) ∧
      x.det.rms = ⟨[], 0, 0⟩ ∧ x.det.ls = -120 ∧ x.det.t = 0 ∧
      x.hist = ⟨List.replicate 80 0, 0⟩) ∧
    t.pg =
      { struct := .minphase, zeroLat := false, lookahead := 0, scPresent := false, solo := 16, trim := 0, effectOn := true,
        hq := false, phaseFlip := false, sgcOn := false, measure := false, rmsMs := 10, decaySlow := false } ∧
    t.cg = t.pg ∧ t.gdirty = false ∧ t.pendS = false ∧ t.pendG = false ∧ t.pendB = false ∧
    t.prepared = false ∧ t.fs = 0 ∧ t.maxblock = 0 ∧ t.sublen = 0 ∧ t.latency = 0 ∧ t.latSeq = 0 ∧
    (∀ m, t.base.get m = ⟨[], 0, 0⟩ ∧ t.sgc.get m = 1) ∧ t.la = ⟨[], 0⟩ ∧ t.fifo = ⟨[], [], 0⟩ ∧
    (∀ g k, (t.corr.get g).get k = ⟨[], List.replicate 4097 0, 0⟩) ∧ t.meas = ⟨0, 0, 0, 0⟩ ∧ t.again = 0 ∧ t.soloSec = none ∧
    ∀ k, t.soloState.get k = ⟨0, 0⟩

/-- PREPARE with fs = 0 is ignored. With fs > 0 it completes: sizes from FS, every register committed at once, every flag
cleared, all signal state zeroed, AGAIN and the staged registers kept, LAT_SEQ kept plus one if LATENCY changed, and
LATENCY_CHANGED signalled exactly then (45_controller.md R330, R353, R362, 70_reset_and_hazards.md R414). That SUBLEN is
max 1 (fs / 1000) rests on the default SUBBLOCK_SEC of 00_scope.md R9, which is log entry 2 (DESIGN CHOICE). The coefficients
after PREPARE are left to `Obligations.CoefficientsStayCoherent`; what PREPARE publishes in CUR_GAIN, CUR_Q and NSEC is left
unsaid here. -/
def Obligations.Prepare : Prop :=
  ∀ (s : State) (m f : Nat), exec (.prepare m 0) s = .next s ∧
    (0 < f → ∃ t, exec (.prepare m f) s = .next t ∧
      t.prepared = true ∧ t.fs = f ∧ t.maxblock = m ∧ t.sublen = max 1 (f / 1000) ∧
      t.pendS = false ∧ t.pendG = false ∧ t.pendB = false ∧ t.gdirty = false ∧ t.pg = s.pg ∧ t.cg = s.pg ∧
      (∀ b : Fin 16,
        let x := t.bands[b]
        x.staged = s.bands[b].staged ∧ x.comm = s.bands[b].staged ∧ x.dirty = false ∧
        x.hist = ⟨List.replicate 80 0, 0⟩ ∧ x.disp.histP05 = 80 ∧ x.disp.histP50 = 80 ∧ x.disp.histP95 = 80 ∧
        x.det.t = 0 ∧ x.det.ls = -120 ∧ x.disp.curT = 0 ∧ x.disp.curLevel = -120 ∧
        x.det.rms = ⟨List.replicate t.w 0, 0, 0⟩ ∧
        ∀ k, x.fstate.get k = List.replicate 8 ⟨0, 0⟩ ∧ x.det.sstate.get k = ⟨0, 0⟩) ∧
      (∀ mo, t.base.get mo = ⟨List.replicate t.w 0, 0, 0⟩) ∧
      t.fifo = ⟨List.replicate t.sublen ⟨0, 0, 0, 0⟩, List.replicate t.sublen (0, 0), 0⟩ ∧
      t.la = ⟨List.replicate (Arith.roundNat (s.pg.lookahead * f / 1000)) (0, 0), 0⟩ ∧
      t.w = max 1 (Arith.roundNat (s.pg.rmsMs * f / 1000)) ∧
      (∀ g k, (∀ x ∈ ((t.corr.get g).get k).hist, x = 0) ∧ ((t.corr.get g).get k).cpos = 0) ∧
      (∀ k, t.soloState.get k = ⟨0, 0⟩) ∧ t.meas = ⟨0, 0, 0, 0⟩ ∧ t.again = s.again ∧
      t.latency = t.latencyOf ∧
      (t.latency = s.latency ∧ t.latSeq = s.latSeq ∧ t.io = s.io ∨
        t.latency ≠ s.latency ∧ t.latSeq = s.latSeq + 1 ∧
          t.io = { s.io with events := s.io.events ++ [.latencyChanged t.latency] }))

/-! ### PROCESS -/

/-- PROCESS before PREPARE: the main pairs of the frames it takes come out, word for word, and no other state changes. `fr` is
what it takes: n frames, or all whole frames where fewer wait (45_controller.md R332, 20_memory.md R61, R63 to R65). A main
sample of -0 is left out: it comes out as +0 (log entry 10). -/
def Obligations.ProcessUnprepared : Prop :=
  ∀ (s : State) (n : Nat) (fr : List (DataWord × DataWord × DataWord × DataWord)) (rest : List DataWord),
    s.prepared = false → s.io.audioIn = fr.flatMap (fun f => [f.1, f.2.1, f.2.2.1, f.2.2.2]) ++ rest →
    (fr.length = n ∨ fr.length < n ∧ rest.length < 4) →
    (∀ f ∈ fr, (∃ v, f32val f.1 = .fin v) ∧ (∃ v, f32val f.2.1 = .fin v) ∧ f.1 ≠ 0x80000000 ∧ f.2.1 ≠ 0x80000000) →
    exec (.process n) s = .next { s with
      io := { s.io with audioIn := rest, audioOut := s.io.audioOut ++ fr.flatMap fun f => [f.1, f.2.1] } }

/-- PROCESS in a prepared block completes where the waiting samples are finite: it takes n_eff frames from the stream, gives
exactly n_eff frames after what was there, and leaves the staged globals, the preparation state, the command stream and the
responses alone (20_memory.md R64, R65, 45_controller.md R331). -/
def Obligations.ProcessCompletes : Prop :=
  ∀ (s : State) (n : Nat), s.prepared = true → 0 < s.sublen → s.SamplesFinite →
    ∃ t, exec (.process n) s = .next t ∧
      t.io.audioIn = s.io.audioIn.drop (4 * min n (s.io.audioIn.length / 4)) ∧
      (∃ out, t.io.audioOut = s.io.audioOut ++ out ∧ out.length = 2 * min n (s.io.audioIn.length / 4)) ∧
      t.pg = s.pg ∧ t.prepared = true ∧ t.fs = s.fs ∧ t.maxblock = s.maxblock ∧ t.sublen = s.sublen ∧
      t.io.cmds = s.io.cmds ∧ t.io.respCtrl = s.io.respCtrl ∧ t.io.respAudio = s.io.respAudio ∧ t.io.cur = s.io.cur

/-- What one PROCESS commits: at most one of the structural classes, in the order S, G, B, the others staying pending; every
dirty band and the dirty globals. THRESH and KNEE of a band that stops learning are the business of `StopLearning`
(45_controller.md R333 to R338, R340). -/
def Obligations.CommitTransfers : Prop :=
  ∀ (s t : State) (n : Nat), s.prepared = true → exec (.process n) s = .next t →
    let doS := s.pendS
    let doG := !s.pendS && s.pendG
    let doB := !s.pendS && !s.pendG && s.pendB
    t.pendS = false ∧ t.pendG = (s.pendG && !doG) ∧ t.pendB = (s.pendB && !doB) ∧ t.gdirty = false ∧
    (let from_ := if doS then s.pg else s.cg
     t.cg.struct = from_.struct ∧ t.cg.zeroLat = from_.zeroLat ∧ t.cg.lookahead = from_.lookahead) ∧
    (let from_ := if doB then s.pg else s.cg
     t.cg.solo = from_.solo ∧ t.cg.effectOn = from_.effectOn) ∧
    (let from_ := if s.gdirty then s.pg else s.cg
     t.cg.scPresent = from_.scPresent ∧ t.cg.trim = from_.trim ∧ t.cg.hq = from_.hq ∧ t.cg.phaseFlip = from_.phaseFlip ∧
     t.cg.sgcOn = from_.sgcOn ∧ t.cg.measure = from_.measure ∧ t.cg.rmsMs = from_.rmsMs ∧
     t.cg.decaySlow = from_.decaySlow) ∧
    ∀ b : Fin 16,
      let x := s.bands[b]
      let y := t.bands[b].comm
      t.bands[b].dirty = false ∧
      y.active = (if doG then x.staged.active else x.comm.active) ∧
      y.stereo = (if doG then x.staged.stereo else x.comm.stereo) ∧
      y.bypass = (if doB then x.staged.bypass else x.comm.bypass) ∧
      (let from_ := if x.dirty then x.staged else x.comm
       y.ftype = from_.ftype ∧ y.order = from_.order ∧ y.freq = from_.freq ∧ y.gain = from_.gain ∧ y.q = from_.q ∧
       y.dynOn = from_.dynOn ∧ y.tgain = from_.tgain ∧ y.tq = from_.tq ∧ y.attack = from_.attack ∧
       y.release = from_.release ∧ y.relThresh = from_.relThresh ∧ y.sideFreq = from_.sideFreq ∧ y.sideQ = from_.sideQ ∧
       y.sideSwap = from_.sideSwap ∧ y.learn = from_.learn ∧
       ((x.dirty && x.comm.learn && !x.staged.learn) = false → y.thresh = from_.thresh ∧ y.knee = from_.knee))

/-- Stop learning: at the commit in which LEARN goes 1 to 0, THRESH and KNEE of both copies come from the histogram if it is not
empty, and are what was staged if it is; the histogram and its percentile registers are kept (43_detector_histogram.md R277).
The margin 3 and the ranges -80 to 0 and 1/100 to 60 are the defaults of LEARN_MARGIN_DB, THRESH and KNEE in 00_scope.md R9,
which is log entry 2 (DESIGN CHOICE). -/
def Obligations.StopLearning : Prop :=
  ∀ (s t : State) (n : Nat) (b : Fin 16), s.prepared = true → exec (.process n) s = .next t →
    s.bands[b].dirty = true → s.bands[b].comm.learn = true → s.bands[b].staged.learn = false →
    let h := s.bands[b].hist
    let x := t.bands[b]
    x.hist = h ∧ x.disp.histP05 = s.bands[b].disp.histP05 ∧ x.disp.histP50 = s.bands[b].disp.histP50 ∧
    x.disp.histP95 = s.bands[b].disp.histP95 ∧
    (0 < h.total →
      let th := Arith.clamp (3 - h.pct (1 / 2)) (-80) 0
      let kn := Arith.clamp (h.pct (19 / 20) - h.pct (1 / 20)) (1 / 100) 60
      x.comm.thresh = th ∧ x.staged.thresh = th ∧ x.comm.knee = kn ∧ x.staged.knee = kn) ∧
    (¬ 0 < h.total →
      x.comm.thresh = s.bands[b].staged.thresh ∧ x.staged.thresh = s.bands[b].staged.thresh ∧
      x.comm.knee = s.bands[b].staged.knee ∧ x.staged.knee = s.bands[b].staged.knee)

/-- PROCESS writes no staged register but THRESH and KNEE of a band that stops learning (10_state.md R24, 60_exceptions.md
R390). -/
def Obligations.StagedKept : Prop :=
  ∀ (s t : State) (n : Nat), exec (.process n) s = .next t →
    t.pg = s.pg ∧ ∀ b : Fin 16,
      t.bands[b].staged = { s.bands[b].staged with thresh := t.bands[b].staged.thresh, knee := t.bands[b].staged.knee } ∧
      ((s.bands[b].dirty && s.bands[b].comm.learn && !s.bands[b].staged.learn) = false →
        t.bands[b].staged = s.bands[b].staged)

/-- A structure transition: a PROCESS that commits class S and no dirty band takes over STRUCTURE, ZERO_LAT and LOOKAHEAD and
brings LATENCY up to date; it writes no band register, staged or committed, however many frames it takes. Seen before any frame
(n = 0) the filter states and correction histories are zeroed, and the histograms are kept, and so are the detectors unless
global registers were committed with it (44_structure_correction.md R292 to R294). -/
def Obligations.StructureTransition : Prop :=
  ∀ (s t : State) (n : Nat), s.prepared = true → s.pendS = true → (∀ b : Fin 16, s.bands[b].dirty = false) →
    exec (.process n) s = .next t →
    t.cg.struct = s.pg.struct ∧ t.cg.zeroLat = s.pg.zeroLat ∧ t.cg.lookahead = s.pg.lookahead ∧
    t.latency = t.latencyOf ∧
    (∀ b : Fin 16, t.bands[b].staged = s.bands[b].staged ∧ t.bands[b].comm = s.bands[b].comm) ∧
    (n = 0 →
      (∀ b : Fin 16, (s.gdirty = false → t.bands[b].det = s.bands[b].det) ∧ t.bands[b].hist = s.bands[b].hist ∧
        ∀ k, t.bands[b].fstate.get k = List.replicate 8 ⟨0, 0⟩) ∧
      ∀ g k, (∀ x ∈ ((t.corr.get g).get k).hist, x = 0) ∧ ((t.corr.get g).get k).cpos = 0)

/-- PROCESS with nothing to commit and no frame to take changes nothing (20_memory.md R65, 45_controller.md R333). -/
def Obligations.NothingPending : Prop :=
  ∀ (s : State) (n : Nat), s.prepared = true → s.anyFlag = false → (n = 0 ∨ s.io.audioIn.length < 4) →
    exec (.process n) s = .next s

/-- Block size: with nothing to commit, two PROCESS commands in a row do exactly what one of the summed count does; with the
zero-latency splitter this is said for a first count that is a multiple of SUBLEN (45_controller.md R346, R363). -/
def Obligations.BlockSize : Prop :=
  ∀ (s t u : State) (n m : Nat), s.prepared = true → s.anyFlag = false → (s.cg.zeroLat = true → n % s.sublen = 0) →
    exec (.process n) s = .next t → exec (.process m) t = .next u → exec (.process (n + m)) s = .next u

/-- With no sidechain committed the side samples are ignored: words that agree on every main sample and are as many give the
same result, but for the words left on the stream (45_controller.md R341). -/
def Obligations.SideIgnored : Prop :=
  ∀ (s t : State) (n : Nat) (ws : List DataWord), s.prepared = true → s.commit.cg.scPresent = false →
    ws.length = s.io.audioIn.length →
    (∀ k, ws[4 * k]? = s.io.audioIn[4 * k]? ∧ ws[4 * k + 1]? = s.io.audioIn[4 * k + 1]?) →
    exec (.process n) s = .next t →
    exec (.process n) { s with io := { s.io with audioIn := ws } } =
      .next { t with io := { t.io with audioIn := ws.drop (4 * min n (ws.length / 4)) } }

/-- FS, MAXBLOCK, SUBLEN and PREPARED are written only by PREPARE and RESET, and are 0 after RESET (10_state.md R41). -/
def Obligations.PreparationState : Prop :=
  (∀ (i : Instr) (s t : State), i ≠ .reset → (∀ m f, i ≠ .prepare m f) → exec i s = .next t →
    t.prepared = s.prepared ∧ t.fs = s.fs ∧ t.maxblock = s.maxblock ∧ t.sublen = s.sublen) ∧
  ∀ (s t : State), exec .reset s = .next t → t.prepared = false ∧ t.fs = 0 ∧ t.maxblock = 0 ∧ t.sublen = 0

/-- LATENCY_CHANGED: a command other than RESET signals one event, with the new LATENCY, and counts it in LAT_SEQ, exactly when
LATENCY changes; RESET signals none (45_controller.md R353, 60_exceptions.md R386, 40_register_commands.md R159). -/
def Obligations.LatencyEvents : Prop :=
  (∀ (i : Instr) (s t : State), i ≠ .reset → exec i s = .next t →
    (t.latency = s.latency ∧ t.latSeq = s.latSeq ∧ t.io.events = s.io.events ∨
      t.latency ≠ s.latency ∧ t.latSeq = s.latSeq + 1 ∧ t.io.events = s.io.events ++ [.latencyChanged t.latency])) ∧
  ∀ (s t : State), exec .reset s = .next t → t.io.events = s.io.events ∧ t.latency = 0 ∧ t.latSeq = 0

/-- The latency of the committed registers: lookahead, plus SUBLEN without zero latency, plus one correction filter's delay for
each group in use where the effective structure corrects (45_controller.md R344, R352, 44_structure_correction.md R297, R304,
R305; the filter sizes are the defaults of 00_scope.md R9, log entry 2). -/
def Obligations.LatencyFormula : Prop :=
  ∀ s : State,
    let la := Arith.roundNat (s.cg.lookahead * s.fs / 1000)
    let lr := ∃ b : Fin 16, s.bands[b].comm.active = true ∧
      (s.bands[b].comm.stereo = .left ∨ s.bands[b].comm.stereo = .right)
    let ms := ∃ b : Fin 16, s.bands[b].comm.active = true ∧
      (s.bands[b].comm.stereo = .mid ∨ s.bands[b].comm.stereo = .side)
    ∀ l r : Nat, (lr → l = 1) → (¬ lr → l = 0) → (ms → r = 1) → (¬ ms → r = 0) →
      s.latencyOf = la + (if s.cg.zeroLat then 0 else s.sublen) +
        (if s.cg.zeroLat then 0 else
          match s.cg.struct with
          | .matched => (1 + l + r) * 512
          | .mixed => (1 + l + r) * 256
          | .linear => (1 + l + r) * 2048
          | _ => 0)

/-! ### Invariants -/

/-- Every register, staged and committed, always holds a legal value (10_state.md R22). The ranges are the defaults of
00_scope.md R9, which is log entry 2 (DESIGN CHOICE). -/
def Obligations.RegistersStayLegal : Prop := ∀ s t : State, s.RegistersLegal → step s = .next t → t.RegistersLegal

/-- A write is never lost: a register whose flag is clear is in force (20_memory.md R71, R72). -/
def Obligations.NothingStaysLost : Prop := ∀ s t : State, s.NothingLost → step s = .next t → t.NothingLost

/-- Coefficient sections are always a0-normalised (10_state.md R44, 41_coefficient_designer.md R188). -/
def Obligations.SectionsStayNormalised : Prop := ∀ s t : State, s.Normalised → step s = .next t → t.Normalised

/-- Histograms keep 80 non-negative bins whose sum is the total (10_state.md R34, 43_detector_histogram.md R273). -/
def Obligations.HistogramsStaySound : Prop := ∀ s t : State, s.HistogramsSound → step s = .next t → t.HistogramsSound

/-- Interpolation factors stay in [0, 1], and a static band keeps factor 0 and runs its base design (10_state.md R30, R32,
43_detector_histogram.md R267, 42_band_filter.md R232). -/
def Obligations.FactorsStaySound : Prop := ∀ s t : State, s.FactorsSound → step s = .next t → t.FactorsSound

/-- The reported LATENCY is at all times that of the committed registers (45_controller.md R352). -/
def Obligations.LatencyStaysCurrent : Prop := ∀ s t : State, s.LatencyCurrent → step s = .next t → t.LatencyCurrent

/-- In a prepared block the coefficients are at all times the design of the committed registers (20_memory.md R77). -/
def Obligations.CoefficientsStayCoherent : Prop :=
  ∀ s t : State, (s.prepared = true → s.Coherent) → step s = .next t → t.prepared = true → t.Coherent

/-- In a prepared block every buffer keeps the size FS and the committed registers give it, and every ring position stays inside
its ring; a correction history keeps its length, and its position stays inside it, before PREPARE too (20_memory.md R66, R81,
10_state.md R31 to R37, R40). The length H = 4097 of a correction history is log entry 17
(DESIGN CHOICE): 10_state.md R37 says only that H is at least 2*M_max + 1, and neither FS nor a register gives it. The tap lists
are left out. -/
def Obligations.BuffersStaySized : Prop := ∀ s t : State, s.SizedWhenPrepared → step s = .next t → t.SizedWhenPrepared

/-- Every invariant holds in the reset state (10_state.md R22, R37, R44, 70_reset_and_hazards.md R411). -/
def Obligations.ResetMeetsInvariants : Prop :=
  State.reset.RegistersLegal ∧ State.reset.NothingLost ∧ State.reset.Normalised ∧ State.reset.HistogramsSound ∧
  State.reset.FactorsSound ∧ State.reset.LatencyCurrent ∧ State.reset.prepared = false ∧ State.reset.SizedWhenPrepared

/-- No rule of the audio path reads a display register, and a skipped publication changes nothing else: states that agree but
for display registers, publication draws and response words still agree after a step (20_memory.md R76, 60_exceptions.md
R393). -/
def Obligations.DisplayNotRead : Prop :=
  ∀ s s' t t' : State, s.hideDisplay = s'.hideDisplay → step s = .next t → step s' = .next t' →
    t.hideDisplay = t'.hideDisplay

/-! ### Signal path -/

/-- A second-order analog section with positive denominator coefficients, mapped at K > 0, is stable by the three conditions
and keeps its gain at DC (K-free): 41_coefficient_designer.md R185, R188, R210. -/
def Obligations.BilinearStable : Prop :=
  ∀ (K : Rat) (p : SpecTwo), 0 < K → 0 < p.cA0 → 0 < p.cA1 → 0 < p.cA2 →
    let c := bltTwoAt K p
    c.a0 = 1 ∧ 0 < 1 + c.a1 + c.a2 ∧ 0 < 1 - c.a1 + c.a2 ∧ c.a2 < 1 ∧
    (c.b0 + c.b1 + c.b2) / (1 + c.a1 + c.a2) = p.cB2 / p.cA2 ∧
    (c.b0 - c.b1 + c.b2) / (1 - c.a1 + c.a2) = p.cB0 / p.cA0

/-- The number of sections of a design is 1 for effective order 1 and else half the effective order (2 for a peak; 2 for a notch,
band pass or band shelf of order 1), so 1 to 8, and every section is a0-normalised (41_coefficient_designer.md R182, R205). -/
def Obligations.SectionCount : Prop :=
  ∀ (type : FType) (f gdb q : Rat) (order fs : Nat), order ∈ legalOrders →
    (design type f gdb q order fs).length =
      (match type with
       | .peak => 1
       | .notch | .bandPass | .bandShelf => max 1 (order / 2)
       | _ => if order = 1 then 1 else order / 2) ∧
    1 ≤ (design type f gdb q order fs).length ∧ (design type f gdb q order fs).length ≤ 8 ∧
    ∀ c ∈ design type f gdb q order fs, c.a0 = 1

/-- The properties of the knee map; continuity in the form of a Lipschitz bound (43_detector_histogram.md R263). -/
def Obligations.KneeMap : Prop :=
  ∀ w : Rat, 0 < w →
    (∀ x, 0 ≤ knee x w ∧ knee x w ≤ 1 ∧ (knee x w = 0 ↔ x ≤ -w / 2) ∧ (knee x w = 1 ↔ w / 2 ≤ x)) ∧
    (∀ x y, x ≤ y → knee x w ≤ knee y w ∧ knee y w - knee x w ≤ 3 / (2 * w) * (y - x)) ∧
    knee 0 w = 1 / 2 ∧
    knee (-3 : Rat) 6 = 0 ∧ knee (-3 / 2 : Rat) 6 = 5 / 32 ∧ knee (0 : Rat) 6 = 1 / 2 ∧ knee (3 / 2 : Rat) 6 = 27 / 32 ∧
    knee (3 : Rat) 6 = 1

/-- The laws of the histogram (43_detector_histogram.md R270 to R273): a push keeps the total the sum of non-negative bins;
percentiles lie on the axis, do not fall as p rises, are 0 at p = 0; after k >= 1 pushes of one value into an empty histogram the
percentile of p > 0 is its bin plus p; an empty histogram answers 80. -/
def Obligations.HistogramLaws : Prop :=
  Hist.empty.Sound ∧
  (∀ (h : Hist) (v d : Rat), h.Sound → 0 ≤ d → (h.push v d).Sound) ∧
  (∀ (h : Hist) (p p' : Rat), h.Sound → 0 < h.total → p ≤ p' →
    0 ≤ h.pct p ∧ h.pct p ≤ h.pct p' ∧ h.pct p' ≤ 80 ∧ h.pct 0 = 0) ∧
  (∀ (v d p : Rat) (k : Nat), 0 ≤ v → v < 80 → 0 < d → 0 < p → p ≤ 1 →
    ((fun h => Hist.push h v d)^[k + 1] Hist.empty).pct p = (v.floor : Rat) + p) ∧
  ∀ (h : Hist) (p : Rat), ¬ 0 < h.total → h.pct p = 80

/-- The mid/side matrix, encode and decode, and that decode after encode is the identity (44_structure_correction.md R302). -/
def Obligations.MidSide : Prop :=
  ∀ x : Pair, x.1.length = x.2.length → msDecode (msEncode x) = x ∧
    ∀ (i : Nat) (l r : Rat), x.1[i]? = some l → x.2[i]? = some r →
      (msEncode x).1[i]? = some ((l + r) / 2) ∧ (msEncode x).2[i]? = some ((l - r) / 2) ∧
      (msDecode x).1[i]? = some (l + r) ∧ (msDecode x).2[i]? = some (l - r)

/-- A correction stage in delay mode passes its input delayed by M frames (44_structure_correction.md R315, 20_memory.md R66). -/
def Obligations.DelayMode : Prop :=
  ∀ (M : Nat) (c : CorrSlot) (xs : List Rat), M < c.hist.length → c.cpos < c.hist.length →
    (corrRun false M c xs).1.length = xs.length ∧
    ∀ n, M ≤ n → n < xs.length → (corrRun false M c xs).1[n]? = xs[n - M]?

/-- The lookahead line gives, for each frame, the main pair that came its length of frames earlier, the first ones out being what
the line held (zeros if it was zeroed); a line of length 0 gives the frame's own main pair; sidechain pairs are not delayed
(45_controller.md R343). -/
def Obligations.LookaheadDelay : Prop :=
  ∀ (s : State) (fr : List Frame), s.la.buf.length = 0 ∨ s.la.pos < s.la.buf.length →
    (frontRun s fr).1.length = fr.length ∧
    ∀ (n : Nat) (f : Frame), (frontRun s fr).1[n]? = some f →
      (∃ g, fr[n]? = some g ∧ f.sL = g.sL ∧ f.sR = g.sR) ∧
      (n < s.la.buf.length → s.la.buf[(s.la.pos + n) % s.la.buf.length]? = some (f.mL, f.mR)) ∧
      (s.la.buf.length ≤ n → ∃ g, fr[n - s.la.buf.length]? = some g ∧ f.mL = g.mL ∧ f.mR = g.mR)

/-- A sub-block with the effect off, and no correction stage, gives its main pairs unchanged; the detectors run all the same
(45_controller.md R348, R349, R361). -/
def Obligations.EffectOff : Prop :=
  ∀ (s : State) (fr : List Frame), s.cg.effectOn = false → (effStruct s.cg).correcting = false →
    (subblock s fr).1 = fr.map (fun f => (f.mL, f.mR)) ∧ (subblock s fr).2.bands = (detectStage s fr).2.bands

/-- An idle engine is transparent: with no active band, nothing soloed, no gain and no correction stage, a sub-block gives its main
pairs unchanged (70_reset_and_hazards.md R415; that lin(0) is 1 is the arithmetic of log entry 1). -/
def Obligations.IdleTransparent : Prop :=
  ∀ (s : State) (fr : List Frame), (∀ b : Fin 16, s.bands[b].comm.active = false) → s.soloSec = none →
    (effStruct s.cg).correcting = false → s.cg.sgcOn = false → s.cg.trim = 0 → s.again = 0 → s.cg.phaseFlip = false →
    (subblock s fr).1 = fr.map fun f => (f.mL, f.mR)

/-- A band out of the signal path (inactive, bypassed, effect off, solo engaged, LINEAR) keeps its filter state through a
sub-block; a band whose detector does not run (inactive or static) keeps its detector state and its histogram
(42_band_filter.md R233, R236, 43_detector_histogram.md R267). -/
def Obligations.StateRests : Prop :=
  ∀ (s : State) (fr : List Frame) (b : Fin 16),
    (s.bands[b].comm.active = false ∨ s.bands[b].comm.bypass = true ∨ s.cg.effectOn = false ∨ s.soloSec.isSome = true ∨
      effStruct s.cg = .linear → (subblock s fr).2.bands[b].fstate = s.bands[b].fstate) ∧
    (s.bands[b].comm.active = false ∨ s.bands[b].comm.dynOn = false →
      (subblock s fr).2.bands[b].det = s.bands[b].det ∧ (subblock s fr).2.bands[b].hist = s.bands[b].hist)

/-- With attack and release 0 the smoothed level is the momentary level, and the factor is the knee of the level above reference
and threshold; an RMS window of zeros is at the level floor (43_detector_histogram.md R256, R258 to R262; that log10 answers -12 there is the
arithmetic of log entry 1). -/
def Obligations.DetectorInstant : Prop :=
  (∀ (b : Band) (fs n : Nat) (lb ref : Rat), b.comm.attack = 0 → b.comm.release = 0 →
    (b.envelope fs n lb ref).det.ls = lb ∧
    (b.envelope fs n lb ref).det.t = knee (lb - ref - b.comm.thresh) b.comm.knee) ∧
  ∀ w : Nat, level w (0 : Rat) = -120

/-! ### Every configuration -/

/-- The parameters and ARITH are an argument (00_scope.md R9, R13): in every configuration, over every type of values whose
operations and comparisons need obey no law, a step loses no write (20_memory.md R71, R72), keeps the sections a0-normalised
(10_state.md R44), and keeps LATENCY that of the committed registers (45_controller.md R352) if the reset state's is. `step` is
`stepIn` of the standard configuration. -/
def Obligations.EveryConfiguration : Prop :=
  ∀ (V : Type) [Zero V] [One V] [NatCast V] [Add V] [Sub V] [Neg V] [Mul V] [Div V] [LT V] [LE V] [BEq V] [Min V] [Max V]
    [DecidableLT V] [DecidableLE V] (C : Config V) (s t : State V), stepIn C s = .next t →
    (s.NothingLost → t.NothingLost) ∧ (s.Normalised → t.Normalised) ∧
    ((State.resetIn C).LatencyCurrent → s.LatencyCurrent → t.LatencyCurrent)

end Statements
end

