-- ==== Sys2Proof/Laws/Config.lean ====
section
/-! SUPPORT. The fields of the standard configuration, one lemma each, so that no proof unfolds the record. -/

namespace Sys2Proof

/-! The defaults of 00_scope.md R9. -/

@[simp] theorem Config.standard_freqMin : Config.standard.freqMin = 10 := rfl
@[simp] theorem Config.standard_freqMax : Config.standard.freqMax = 20000 := rfl
@[simp] theorem Config.standard_gainMin : Config.standard.gainMin = -30 := rfl
@[simp] theorem Config.standard_gainMax : Config.standard.gainMax = 30 := rfl
@[simp] theorem Config.standard_threshMin : Config.standard.threshMin = -80 := rfl
@[simp] theorem Config.standard_threshMax : Config.standard.threshMax = 0 := rfl
@[simp] theorem Config.standard_kneeMin : Config.standard.kneeMin = 1 / 100 := rfl
@[simp] theorem Config.standard_kneeMax : Config.standard.kneeMax = 60 := rfl
@[simp] theorem Config.standard_attackMax : Config.standard.attackMax = 1000 := rfl
@[simp] theorem Config.standard_releaseMax : Config.standard.releaseMax = 5000 := rfl
@[simp] theorem Config.standard_laMaxMs : Config.standard.laMaxMs = 20 := rfl
@[simp] theorem Config.standard_trimMin : Config.standard.trimMin = -30 := rfl
@[simp] theorem Config.standard_trimMax : Config.standard.trimMax = 30 := rfl
@[simp] theorem Config.standard_rmsMsMax : Config.standard.rmsMsMax = 1000 := rfl
@[simp] theorem Config.standard_subblockSec : Config.standard.subblockSec = 1 / 1000 := rfl
@[simp] theorem Config.standard_wMax : Config.standard.wMax = 99 / 100 * Machine.RatArith.pi := rfl
@[simp] theorem Config.standard_msFloor : Config.standard.msFloor = 1 / 1000000000000 := rfl
@[simp] theorem Config.standard_levelFloorDb : Config.standard.levelFloorDb = -120 := by decide +kernel
@[simp] theorem Config.standard_learnMarginDb : Config.standard.learnMarginDb = 3 := rfl
@[simp] theorem Config.standard_corrMMatched : Config.standard.corrMMatched = 512 := rfl
@[simp] theorem Config.standard_corrMMixed : Config.standard.corrMMixed = 256 := rfl
@[simp] theorem Config.standard_corrMLinear : Config.standard.corrMLinear = 2048 := rfl
@[simp] theorem Config.standard_corrGainMax : Config.standard.corrGainMax = 16 := rfl
@[simp] theorem Config.standard_corrEps : Config.standard.corrEps = 1 / 1000000000000 := rfl
@[simp] theorem Config.standard_fLowRef : Config.standard.fLowRef = 10 := rfl
@[simp] theorem Config.standard_fHighRef : Config.standard.fHighRef = 20000 := rfl
@[simp] theorem Config.standard_audibleLo : Config.standard.audibleLo = 20 := rfl
@[simp] theorem Config.standard_audibleHi : Config.standard.audibleHi = 20000 := rfl
@[simp] theorem Config.standard_histDecayFast : Config.standard.histDecayFast = 9995 / 10000 := rfl
@[simp] theorem Config.standard_histDecaySlow : Config.standard.histDecaySlow = 99999 / 100000 := rfl
@[simp] theorem Config.standard_corrHistSpare : Config.standard.corrHistSpare = 0 := rfl
@[simp] theorem Config.standard_corrHistLen : Config.standard.corrHistLen = 4097 := rfl
@[simp] theorem Config.standard_qRescale (n : Nat) (q : Rat) (k : Nat) : Config.standard.qRescale n q k = 1 := rfl
@[simp] theorem Config.standard_sgcEst (type : Machine.FType) (f gdb q : Rat) :
    Config.standard.sgcEst type f gdb q = Arith.rational.sgcDefault 20 20000 type f gdb q := rfl
@[simp] theorem Config.standard_soloMap (type : Machine.FType) (f q : Rat) :
    Config.standard.soloMap type f q = Arith.rational.soloDefault 10 20000 type f q := rfl

/-- The default Q_RESCALE is an instance (41_coefficient_designer.md R194). -/
theorem Config.standard_qRescaleSound : Config.standard.QRescaleSound :=
  ⟨fun _ _ _ => by simp, fun _ => by simp⟩

/-! The rational ARITH (log entry 1). -/

@[simp] theorem Config.standard_sqrt (x : Rat) : Config.standard.sqrt x = Machine.RatArith.sqrt x := rfl
@[simp] theorem Config.standard_exp (x : Rat) : Config.standard.exp x = Machine.RatArith.exp x := rfl
@[simp] theorem Config.standard_ln (x : Rat) : Config.standard.ln x = Machine.RatArith.ln x := rfl
@[simp] theorem Config.standard_log2 (x : Rat) : Config.standard.log2 x = Machine.RatArith.log2 x := rfl
@[simp] theorem Config.standard_log10 (x : Rat) : Config.standard.log10 x = Machine.RatArith.log10 x := rfl
@[simp] theorem Config.standard_sin (x : Rat) : Config.standard.sin x = Machine.RatArith.sin x := rfl
@[simp] theorem Config.standard_cos (x : Rat) : Config.standard.cos x = Machine.RatArith.cos x := rfl
@[simp] theorem Config.standard_tan (x : Rat) : Config.standard.tan x = Machine.RatArith.tan x := rfl
@[simp] theorem Config.standard_sinh (x : Rat) : Config.standard.sinh x = Machine.RatArith.sinh x := rfl
@[simp] theorem Config.standard_asinh (x : Rat) : Config.standard.asinh x = Machine.RatArith.asinh x := rfl
@[simp] theorem Config.standard_pow (a b : Rat) : Config.standard.pow a b = Machine.RatArith.pow a b := rfl
@[simp] theorem Config.standard_floor (x : Rat) : Config.standard.floor x = x.floor := rfl
@[simp] theorem Config.standard_pi : Config.standard.pi = Machine.RatArith.pi := rfl
@[simp] theorem Config.standard_ofRat (v : Rat) : Config.standard.ofRat v = v := rfl

end Sys2Proof
end

