-- ==== Sys2Proof/Laws/State.lean ====
section
/-! SUPPORT. One lemma for each field and each update of State, each true by unfolding: the update's value of a field it
writes, the old value of a field it leaves. Nothing else need unfold a record update. -/

namespace Sys2Proof.Machine

set_option linter.unusedSectionVars false

variable {V : Type}

/-! `State.takeCmd` -/
@[simp] theorem State.takeCmd_bands (s : State V) (c : PortCmd) (rest : List PortCmd) : (s.takeCmd c rest).bands = s.bands := rfl
@[simp] theorem State.takeCmd_pg (s : State V) (c : PortCmd) (rest : List PortCmd) : (s.takeCmd c rest).pg = s.pg := rfl
@[simp] theorem State.takeCmd_cg (s : State V) (c : PortCmd) (rest : List PortCmd) : (s.takeCmd c rest).cg = s.cg := rfl
@[simp] theorem State.takeCmd_gdirty (s : State V) (c : PortCmd) (rest : List PortCmd) : (s.takeCmd c rest).gdirty = s.gdirty := rfl
@[simp] theorem State.takeCmd_pendS (s : State V) (c : PortCmd) (rest : List PortCmd) : (s.takeCmd c rest).pendS = s.pendS := rfl
@[simp] theorem State.takeCmd_pendG (s : State V) (c : PortCmd) (rest : List PortCmd) : (s.takeCmd c rest).pendG = s.pendG := rfl
@[simp] theorem State.takeCmd_pendB (s : State V) (c : PortCmd) (rest : List PortCmd) : (s.takeCmd c rest).pendB = s.pendB := rfl
@[simp] theorem State.takeCmd_prepared (s : State V) (c : PortCmd) (rest : List PortCmd) : (s.takeCmd c rest).prepared = s.prepared := rfl
@[simp] theorem State.takeCmd_fs (s : State V) (c : PortCmd) (rest : List PortCmd) : (s.takeCmd c rest).fs = s.fs := rfl
@[simp] theorem State.takeCmd_maxblock (s : State V) (c : PortCmd) (rest : List PortCmd) : (s.takeCmd c rest).maxblock = s.maxblock := rfl
@[simp] theorem State.takeCmd_sublen (s : State V) (c : PortCmd) (rest : List PortCmd) : (s.takeCmd c rest).sublen = s.sublen := rfl
@[simp] theorem State.takeCmd_latency (s : State V) (c : PortCmd) (rest : List PortCmd) : (s.takeCmd c rest).latency = s.latency := rfl
@[simp] theorem State.takeCmd_latSeq (s : State V) (c : PortCmd) (rest : List PortCmd) : (s.takeCmd c rest).latSeq = s.latSeq := rfl
@[simp] theorem State.takeCmd_w (s : State V) (c : PortCmd) (rest : List PortCmd) : (s.takeCmd c rest).w = s.w := rfl
@[simp] theorem State.takeCmd_base (s : State V) (c : PortCmd) (rest : List PortCmd) : (s.takeCmd c rest).base = s.base := rfl
@[simp] theorem State.takeCmd_la (s : State V) (c : PortCmd) (rest : List PortCmd) : (s.takeCmd c rest).la = s.la := rfl
@[simp] theorem State.takeCmd_fifo (s : State V) (c : PortCmd) (rest : List PortCmd) : (s.takeCmd c rest).fifo = s.fifo := rfl
@[simp] theorem State.takeCmd_corr (s : State V) (c : PortCmd) (rest : List PortCmd) : (s.takeCmd c rest).corr = s.corr := rfl
@[simp] theorem State.takeCmd_sgc (s : State V) (c : PortCmd) (rest : List PortCmd) : (s.takeCmd c rest).sgc = s.sgc := rfl
@[simp] theorem State.takeCmd_meas (s : State V) (c : PortCmd) (rest : List PortCmd) : (s.takeCmd c rest).meas = s.meas := rfl
@[simp] theorem State.takeCmd_again (s : State V) (c : PortCmd) (rest : List PortCmd) : (s.takeCmd c rest).again = s.again := rfl
@[simp] theorem State.takeCmd_soloSec (s : State V) (c : PortCmd) (rest : List PortCmd) : (s.takeCmd c rest).soloSec = s.soloSec := rfl
@[simp] theorem State.takeCmd_soloState (s : State V) (c : PortCmd) (rest : List PortCmd) : (s.takeCmd c rest).soloState = s.soloState := rfl
@[simp] theorem State.takeCmd_io (s : State V) (c : PortCmd) (rest : List PortCmd) : (s.takeCmd c rest).io = { s.io with cmds := rest, cur := c.port } := rfl

/-! `State.consume` -/
@[simp] theorem State.consume_bands (s : State V) (n : Nat) : (s.consume n).bands = s.bands := rfl
@[simp] theorem State.consume_pg (s : State V) (n : Nat) : (s.consume n).pg = s.pg := rfl
@[simp] theorem State.consume_cg (s : State V) (n : Nat) : (s.consume n).cg = s.cg := rfl
@[simp] theorem State.consume_gdirty (s : State V) (n : Nat) : (s.consume n).gdirty = s.gdirty := rfl
@[simp] theorem State.consume_pendS (s : State V) (n : Nat) : (s.consume n).pendS = s.pendS := rfl
@[simp] theorem State.consume_pendG (s : State V) (n : Nat) : (s.consume n).pendG = s.pendG := rfl
@[simp] theorem State.consume_pendB (s : State V) (n : Nat) : (s.consume n).pendB = s.pendB := rfl
@[simp] theorem State.consume_prepared (s : State V) (n : Nat) : (s.consume n).prepared = s.prepared := rfl
@[simp] theorem State.consume_fs (s : State V) (n : Nat) : (s.consume n).fs = s.fs := rfl
@[simp] theorem State.consume_maxblock (s : State V) (n : Nat) : (s.consume n).maxblock = s.maxblock := rfl
@[simp] theorem State.consume_sublen (s : State V) (n : Nat) : (s.consume n).sublen = s.sublen := rfl
@[simp] theorem State.consume_latency (s : State V) (n : Nat) : (s.consume n).latency = s.latency := rfl
@[simp] theorem State.consume_latSeq (s : State V) (n : Nat) : (s.consume n).latSeq = s.latSeq := rfl
@[simp] theorem State.consume_w (s : State V) (n : Nat) : (s.consume n).w = s.w := rfl
@[simp] theorem State.consume_base (s : State V) (n : Nat) : (s.consume n).base = s.base := rfl
@[simp] theorem State.consume_la (s : State V) (n : Nat) : (s.consume n).la = s.la := rfl
@[simp] theorem State.consume_fifo (s : State V) (n : Nat) : (s.consume n).fifo = s.fifo := rfl
@[simp] theorem State.consume_corr (s : State V) (n : Nat) : (s.consume n).corr = s.corr := rfl
@[simp] theorem State.consume_sgc (s : State V) (n : Nat) : (s.consume n).sgc = s.sgc := rfl
@[simp] theorem State.consume_meas (s : State V) (n : Nat) : (s.consume n).meas = s.meas := rfl
@[simp] theorem State.consume_again (s : State V) (n : Nat) : (s.consume n).again = s.again := rfl
@[simp] theorem State.consume_soloSec (s : State V) (n : Nat) : (s.consume n).soloSec = s.soloSec := rfl
@[simp] theorem State.consume_soloState (s : State V) (n : Nat) : (s.consume n).soloState = s.soloState := rfl
@[simp] theorem State.consume_io (s : State V) (n : Nat) : (s.consume n).io = { s.io with audioIn := s.io.audioIn.drop (4 * s.nEff n) } := rfl

/-! `State.withFetchWord` -/
@[simp] theorem State.withFetchWord_bands (s : State) (nbits w : Nat) : (s.withFetchWord nbits w).bands = s.bands := rfl
@[simp] theorem State.withFetchWord_pg (s : State) (nbits w : Nat) : (s.withFetchWord nbits w).pg = s.pg := rfl
@[simp] theorem State.withFetchWord_cg (s : State) (nbits w : Nat) : (s.withFetchWord nbits w).cg = s.cg := rfl
@[simp] theorem State.withFetchWord_gdirty (s : State) (nbits w : Nat) : (s.withFetchWord nbits w).gdirty = s.gdirty := rfl
@[simp] theorem State.withFetchWord_pendS (s : State) (nbits w : Nat) : (s.withFetchWord nbits w).pendS = s.pendS := rfl
@[simp] theorem State.withFetchWord_pendG (s : State) (nbits w : Nat) : (s.withFetchWord nbits w).pendG = s.pendG := rfl
@[simp] theorem State.withFetchWord_pendB (s : State) (nbits w : Nat) : (s.withFetchWord nbits w).pendB = s.pendB := rfl
@[simp] theorem State.withFetchWord_prepared (s : State) (nbits w : Nat) : (s.withFetchWord nbits w).prepared = s.prepared := rfl
@[simp] theorem State.withFetchWord_fs (s : State) (nbits w : Nat) : (s.withFetchWord nbits w).fs = s.fs := rfl
@[simp] theorem State.withFetchWord_maxblock (s : State) (nbits w : Nat) : (s.withFetchWord nbits w).maxblock = s.maxblock := rfl
@[simp] theorem State.withFetchWord_sublen (s : State) (nbits w : Nat) : (s.withFetchWord nbits w).sublen = s.sublen := rfl
@[simp] theorem State.withFetchWord_latency (s : State) (nbits w : Nat) : (s.withFetchWord nbits w).latency = s.latency := rfl
@[simp] theorem State.withFetchWord_latSeq (s : State) (nbits w : Nat) : (s.withFetchWord nbits w).latSeq = s.latSeq := rfl
@[simp] theorem State.withFetchWord_w (s : State) (nbits w : Nat) : (s.withFetchWord nbits w).w = s.w := rfl
@[simp] theorem State.withFetchWord_base (s : State) (nbits w : Nat) : (s.withFetchWord nbits w).base = s.base := rfl
@[simp] theorem State.withFetchWord_la (s : State) (nbits w : Nat) : (s.withFetchWord nbits w).la = s.la := rfl
@[simp] theorem State.withFetchWord_fifo (s : State) (nbits w : Nat) : (s.withFetchWord nbits w).fifo = s.fifo := rfl
@[simp] theorem State.withFetchWord_corr (s : State) (nbits w : Nat) : (s.withFetchWord nbits w).corr = s.corr := rfl
@[simp] theorem State.withFetchWord_sgc (s : State) (nbits w : Nat) : (s.withFetchWord nbits w).sgc = s.sgc := rfl
@[simp] theorem State.withFetchWord_meas (s : State) (nbits w : Nat) : (s.withFetchWord nbits w).meas = s.meas := rfl
@[simp] theorem State.withFetchWord_again (s : State) (nbits w : Nat) : (s.withFetchWord nbits w).again = s.again := rfl
@[simp] theorem State.withFetchWord_soloSec (s : State) (nbits w : Nat) : (s.withFetchWord nbits w).soloSec = s.soloSec := rfl
@[simp] theorem State.withFetchWord_soloState (s : State) (nbits w : Nat) : (s.withFetchWord nbits w).soloState = s.soloState := rfl

/-! Updates that branch: the fields no branch writes. -/
@[simp] theorem State.respond_bands (s : State V) (r : DataWord) : (s.respond r).bands = s.bands := by unfold State.respond; split <;> rfl
@[simp] theorem State.respond_pg (s : State V) (r : DataWord) : (s.respond r).pg = s.pg := by unfold State.respond; split <;> rfl
@[simp] theorem State.respond_cg (s : State V) (r : DataWord) : (s.respond r).cg = s.cg := by unfold State.respond; split <;> rfl
@[simp] theorem State.respond_gdirty (s : State V) (r : DataWord) : (s.respond r).gdirty = s.gdirty := by unfold State.respond; split <;> rfl
@[simp] theorem State.respond_pendS (s : State V) (r : DataWord) : (s.respond r).pendS = s.pendS := by unfold State.respond; split <;> rfl
@[simp] theorem State.respond_pendG (s : State V) (r : DataWord) : (s.respond r).pendG = s.pendG := by unfold State.respond; split <;> rfl
@[simp] theorem State.respond_pendB (s : State V) (r : DataWord) : (s.respond r).pendB = s.pendB := by unfold State.respond; split <;> rfl
@[simp] theorem State.respond_prepared (s : State V) (r : DataWord) : (s.respond r).prepared = s.prepared := by unfold State.respond; split <;> rfl
@[simp] theorem State.respond_fs (s : State V) (r : DataWord) : (s.respond r).fs = s.fs := by unfold State.respond; split <;> rfl
@[simp] theorem State.respond_maxblock (s : State V) (r : DataWord) : (s.respond r).maxblock = s.maxblock := by unfold State.respond; split <;> rfl
@[simp] theorem State.respond_sublen (s : State V) (r : DataWord) : (s.respond r).sublen = s.sublen := by unfold State.respond; split <;> rfl
@[simp] theorem State.respond_latency (s : State V) (r : DataWord) : (s.respond r).latency = s.latency := by unfold State.respond; split <;> rfl
@[simp] theorem State.respond_latSeq (s : State V) (r : DataWord) : (s.respond r).latSeq = s.latSeq := by unfold State.respond; split <;> rfl
@[simp] theorem State.respond_w (s : State V) (r : DataWord) : (s.respond r).w = s.w := by unfold State.respond; split <;> rfl
@[simp] theorem State.respond_base (s : State V) (r : DataWord) : (s.respond r).base = s.base := by unfold State.respond; split <;> rfl
@[simp] theorem State.respond_la (s : State V) (r : DataWord) : (s.respond r).la = s.la := by unfold State.respond; split <;> rfl
@[simp] theorem State.respond_fifo (s : State V) (r : DataWord) : (s.respond r).fifo = s.fifo := by unfold State.respond; split <;> rfl
@[simp] theorem State.respond_corr (s : State V) (r : DataWord) : (s.respond r).corr = s.corr := by unfold State.respond; split <;> rfl
@[simp] theorem State.respond_sgc (s : State V) (r : DataWord) : (s.respond r).sgc = s.sgc := by unfold State.respond; split <;> rfl
@[simp] theorem State.respond_meas (s : State V) (r : DataWord) : (s.respond r).meas = s.meas := by unfold State.respond; split <;> rfl
@[simp] theorem State.respond_again (s : State V) (r : DataWord) : (s.respond r).again = s.again := by unfold State.respond; split <;> rfl
@[simp] theorem State.respond_soloSec (s : State V) (r : DataWord) : (s.respond r).soloSec = s.soloSec := by unfold State.respond; split <;> rfl
@[simp] theorem State.respond_soloState (s : State V) (r : DataWord) : (s.respond r).soloState = s.soloState := by unfold State.respond; split <;> rfl

@[simp] theorem State.reserved_bands (s : State V) (w : CmdWord) : (s.reserved w).bands = s.bands := by unfold State.reserved; split <;> simp
@[simp] theorem State.reserved_pg (s : State V) (w : CmdWord) : (s.reserved w).pg = s.pg := by unfold State.reserved; split <;> simp
@[simp] theorem State.reserved_cg (s : State V) (w : CmdWord) : (s.reserved w).cg = s.cg := by unfold State.reserved; split <;> simp
@[simp] theorem State.reserved_gdirty (s : State V) (w : CmdWord) : (s.reserved w).gdirty = s.gdirty := by unfold State.reserved; split <;> simp
@[simp] theorem State.reserved_pendS (s : State V) (w : CmdWord) : (s.reserved w).pendS = s.pendS := by unfold State.reserved; split <;> simp
@[simp] theorem State.reserved_pendG (s : State V) (w : CmdWord) : (s.reserved w).pendG = s.pendG := by unfold State.reserved; split <;> simp
@[simp] theorem State.reserved_pendB (s : State V) (w : CmdWord) : (s.reserved w).pendB = s.pendB := by unfold State.reserved; split <;> simp
@[simp] theorem State.reserved_prepared (s : State V) (w : CmdWord) : (s.reserved w).prepared = s.prepared := by unfold State.reserved; split <;> simp
@[simp] theorem State.reserved_fs (s : State V) (w : CmdWord) : (s.reserved w).fs = s.fs := by unfold State.reserved; split <;> simp
@[simp] theorem State.reserved_maxblock (s : State V) (w : CmdWord) : (s.reserved w).maxblock = s.maxblock := by unfold State.reserved; split <;> simp
@[simp] theorem State.reserved_sublen (s : State V) (w : CmdWord) : (s.reserved w).sublen = s.sublen := by unfold State.reserved; split <;> simp
@[simp] theorem State.reserved_latency (s : State V) (w : CmdWord) : (s.reserved w).latency = s.latency := by unfold State.reserved; split <;> simp
@[simp] theorem State.reserved_latSeq (s : State V) (w : CmdWord) : (s.reserved w).latSeq = s.latSeq := by unfold State.reserved; split <;> simp
@[simp] theorem State.reserved_w (s : State V) (w : CmdWord) : (s.reserved w).w = s.w := by unfold State.reserved; split <;> simp
@[simp] theorem State.reserved_base (s : State V) (w : CmdWord) : (s.reserved w).base = s.base := by unfold State.reserved; split <;> simp
@[simp] theorem State.reserved_la (s : State V) (w : CmdWord) : (s.reserved w).la = s.la := by unfold State.reserved; split <;> simp
@[simp] theorem State.reserved_fifo (s : State V) (w : CmdWord) : (s.reserved w).fifo = s.fifo := by unfold State.reserved; split <;> simp
@[simp] theorem State.reserved_corr (s : State V) (w : CmdWord) : (s.reserved w).corr = s.corr := by unfold State.reserved; split <;> simp
@[simp] theorem State.reserved_sgc (s : State V) (w : CmdWord) : (s.reserved w).sgc = s.sgc := by unfold State.reserved; split <;> simp
@[simp] theorem State.reserved_meas (s : State V) (w : CmdWord) : (s.reserved w).meas = s.meas := by unfold State.reserved; split <;> simp
@[simp] theorem State.reserved_again (s : State V) (w : CmdWord) : (s.reserved w).again = s.again := by unfold State.reserved; split <;> simp
@[simp] theorem State.reserved_soloSec (s : State V) (w : CmdWord) : (s.reserved w).soloSec = s.soloSec := by unfold State.reserved; split <;> simp
@[simp] theorem State.reserved_soloState (s : State V) (w : CmdWord) : (s.reserved w).soloState = s.soloState := by unfold State.reserved; split <;> simp

@[simp] theorem State.flagBand_pg (s : State V) (b : Fin Config.numBands) (c : RegClass) : (s.flagBand b c).pg = s.pg := by unfold State.flagBand; split <;> rfl
@[simp] theorem State.flagBand_cg (s : State V) (b : Fin Config.numBands) (c : RegClass) : (s.flagBand b c).cg = s.cg := by unfold State.flagBand; split <;> rfl
@[simp] theorem State.flagBand_gdirty (s : State V) (b : Fin Config.numBands) (c : RegClass) : (s.flagBand b c).gdirty = s.gdirty := by unfold State.flagBand; split <;> rfl
@[simp] theorem State.flagBand_prepared (s : State V) (b : Fin Config.numBands) (c : RegClass) : (s.flagBand b c).prepared = s.prepared := by unfold State.flagBand; split <;> rfl
@[simp] theorem State.flagBand_fs (s : State V) (b : Fin Config.numBands) (c : RegClass) : (s.flagBand b c).fs = s.fs := by unfold State.flagBand; split <;> rfl
@[simp] theorem State.flagBand_maxblock (s : State V) (b : Fin Config.numBands) (c : RegClass) : (s.flagBand b c).maxblock = s.maxblock := by unfold State.flagBand; split <;> rfl
@[simp] theorem State.flagBand_sublen (s : State V) (b : Fin Config.numBands) (c : RegClass) : (s.flagBand b c).sublen = s.sublen := by unfold State.flagBand; split <;> rfl
@[simp] theorem State.flagBand_latency (s : State V) (b : Fin Config.numBands) (c : RegClass) : (s.flagBand b c).latency = s.latency := by unfold State.flagBand; split <;> rfl
@[simp] theorem State.flagBand_latSeq (s : State V) (b : Fin Config.numBands) (c : RegClass) : (s.flagBand b c).latSeq = s.latSeq := by unfold State.flagBand; split <;> rfl
@[simp] theorem State.flagBand_w (s : State V) (b : Fin Config.numBands) (c : RegClass) : (s.flagBand b c).w = s.w := by unfold State.flagBand; split <;> rfl
@[simp] theorem State.flagBand_base (s : State V) (b : Fin Config.numBands) (c : RegClass) : (s.flagBand b c).base = s.base := by unfold State.flagBand; split <;> rfl
@[simp] theorem State.flagBand_la (s : State V) (b : Fin Config.numBands) (c : RegClass) : (s.flagBand b c).la = s.la := by unfold State.flagBand; split <;> rfl
@[simp] theorem State.flagBand_fifo (s : State V) (b : Fin Config.numBands) (c : RegClass) : (s.flagBand b c).fifo = s.fifo := by unfold State.flagBand; split <;> rfl
@[simp] theorem State.flagBand_corr (s : State V) (b : Fin Config.numBands) (c : RegClass) : (s.flagBand b c).corr = s.corr := by unfold State.flagBand; split <;> rfl
@[simp] theorem State.flagBand_sgc (s : State V) (b : Fin Config.numBands) (c : RegClass) : (s.flagBand b c).sgc = s.sgc := by unfold State.flagBand; split <;> rfl
@[simp] theorem State.flagBand_meas (s : State V) (b : Fin Config.numBands) (c : RegClass) : (s.flagBand b c).meas = s.meas := by unfold State.flagBand; split <;> rfl
@[simp] theorem State.flagBand_again (s : State V) (b : Fin Config.numBands) (c : RegClass) : (s.flagBand b c).again = s.again := by unfold State.flagBand; split <;> rfl
@[simp] theorem State.flagBand_soloSec (s : State V) (b : Fin Config.numBands) (c : RegClass) : (s.flagBand b c).soloSec = s.soloSec := by unfold State.flagBand; split <;> rfl
@[simp] theorem State.flagBand_soloState (s : State V) (b : Fin Config.numBands) (c : RegClass) : (s.flagBand b c).soloState = s.soloState := by unfold State.flagBand; split <;> rfl
@[simp] theorem State.flagBand_io (s : State V) (b : Fin Config.numBands) (c : RegClass) : (s.flagBand b c).io = s.io := by unfold State.flagBand; split <;> rfl

@[simp] theorem State.flagGlobal_bands (s : State V) (c : RegClass) : (s.flagGlobal c).bands = s.bands := by unfold State.flagGlobal; split <;> rfl
@[simp] theorem State.flagGlobal_pg (s : State V) (c : RegClass) : (s.flagGlobal c).pg = s.pg := by unfold State.flagGlobal; split <;> rfl
@[simp] theorem State.flagGlobal_cg (s : State V) (c : RegClass) : (s.flagGlobal c).cg = s.cg := by unfold State.flagGlobal; split <;> rfl
@[simp] theorem State.flagGlobal_prepared (s : State V) (c : RegClass) : (s.flagGlobal c).prepared = s.prepared := by unfold State.flagGlobal; split <;> rfl
@[simp] theorem State.flagGlobal_fs (s : State V) (c : RegClass) : (s.flagGlobal c).fs = s.fs := by unfold State.flagGlobal; split <;> rfl
@[simp] theorem State.flagGlobal_maxblock (s : State V) (c : RegClass) : (s.flagGlobal c).maxblock = s.maxblock := by unfold State.flagGlobal; split <;> rfl
@[simp] theorem State.flagGlobal_sublen (s : State V) (c : RegClass) : (s.flagGlobal c).sublen = s.sublen := by unfold State.flagGlobal; split <;> rfl
@[simp] theorem State.flagGlobal_latency (s : State V) (c : RegClass) : (s.flagGlobal c).latency = s.latency := by unfold State.flagGlobal; split <;> rfl
@[simp] theorem State.flagGlobal_latSeq (s : State V) (c : RegClass) : (s.flagGlobal c).latSeq = s.latSeq := by unfold State.flagGlobal; split <;> rfl
@[simp] theorem State.flagGlobal_w (s : State V) (c : RegClass) : (s.flagGlobal c).w = s.w := by unfold State.flagGlobal; split <;> rfl
@[simp] theorem State.flagGlobal_base (s : State V) (c : RegClass) : (s.flagGlobal c).base = s.base := by unfold State.flagGlobal; split <;> rfl
@[simp] theorem State.flagGlobal_la (s : State V) (c : RegClass) : (s.flagGlobal c).la = s.la := by unfold State.flagGlobal; split <;> rfl
@[simp] theorem State.flagGlobal_fifo (s : State V) (c : RegClass) : (s.flagGlobal c).fifo = s.fifo := by unfold State.flagGlobal; split <;> rfl
@[simp] theorem State.flagGlobal_corr (s : State V) (c : RegClass) : (s.flagGlobal c).corr = s.corr := by unfold State.flagGlobal; split <;> rfl
@[simp] theorem State.flagGlobal_sgc (s : State V) (c : RegClass) : (s.flagGlobal c).sgc = s.sgc := by unfold State.flagGlobal; split <;> rfl
@[simp] theorem State.flagGlobal_meas (s : State V) (c : RegClass) : (s.flagGlobal c).meas = s.meas := by unfold State.flagGlobal; split <;> rfl
@[simp] theorem State.flagGlobal_again (s : State V) (c : RegClass) : (s.flagGlobal c).again = s.again := by unfold State.flagGlobal; split <;> rfl
@[simp] theorem State.flagGlobal_soloSec (s : State V) (c : RegClass) : (s.flagGlobal c).soloSec = s.soloSec := by unfold State.flagGlobal; split <;> rfl
@[simp] theorem State.flagGlobal_soloState (s : State V) (c : RegClass) : (s.flagGlobal c).soloState = s.soloState := by unfold State.flagGlobal; split <;> rfl
@[simp] theorem State.flagGlobal_io (s : State V) (c : RegClass) : (s.flagGlobal c).io = s.io := by unfold State.flagGlobal; split <;> rfl

variable [Zero V] [One V] [NatCast V] [Add V] [Sub V] [Neg V] [Mul V] [Div V]
  [LT V] [LE V] [BEq V] [Min V] [Max V] [DecidableLT V] [DecidableLE V] {C : Config V}

/-! `State.emit` -/
@[simp] theorem State.emit_bands (s : State V) (out : List (V × V)) : (s.emit out).bands = s.bands := rfl
@[simp] theorem State.emit_pg (s : State V) (out : List (V × V)) : (s.emit out).pg = s.pg := rfl
@[simp] theorem State.emit_cg (s : State V) (out : List (V × V)) : (s.emit out).cg = s.cg := rfl
@[simp] theorem State.emit_gdirty (s : State V) (out : List (V × V)) : (s.emit out).gdirty = s.gdirty := rfl
@[simp] theorem State.emit_pendS (s : State V) (out : List (V × V)) : (s.emit out).pendS = s.pendS := rfl
@[simp] theorem State.emit_pendG (s : State V) (out : List (V × V)) : (s.emit out).pendG = s.pendG := rfl
@[simp] theorem State.emit_pendB (s : State V) (out : List (V × V)) : (s.emit out).pendB = s.pendB := rfl
@[simp] theorem State.emit_prepared (s : State V) (out : List (V × V)) : (s.emit out).prepared = s.prepared := rfl
@[simp] theorem State.emit_fs (s : State V) (out : List (V × V)) : (s.emit out).fs = s.fs := rfl
@[simp] theorem State.emit_maxblock (s : State V) (out : List (V × V)) : (s.emit out).maxblock = s.maxblock := rfl
@[simp] theorem State.emit_sublen (s : State V) (out : List (V × V)) : (s.emit out).sublen = s.sublen := rfl
@[simp] theorem State.emit_latency (s : State V) (out : List (V × V)) : (s.emit out).latency = s.latency := rfl
@[simp] theorem State.emit_latSeq (s : State V) (out : List (V × V)) : (s.emit out).latSeq = s.latSeq := rfl
@[simp] theorem State.emit_w (s : State V) (out : List (V × V)) : (s.emit out).w = s.w := rfl
@[simp] theorem State.emit_base (s : State V) (out : List (V × V)) : (s.emit out).base = s.base := rfl
@[simp] theorem State.emit_la (s : State V) (out : List (V × V)) : (s.emit out).la = s.la := rfl
@[simp] theorem State.emit_fifo (s : State V) (out : List (V × V)) : (s.emit out).fifo = s.fifo := rfl
@[simp] theorem State.emit_corr (s : State V) (out : List (V × V)) : (s.emit out).corr = s.corr := rfl
@[simp] theorem State.emit_sgc (s : State V) (out : List (V × V)) : (s.emit out).sgc = s.sgc := rfl
@[simp] theorem State.emit_meas (s : State V) (out : List (V × V)) : (s.emit out).meas = s.meas := rfl
@[simp] theorem State.emit_again (s : State V) (out : List (V × V)) : (s.emit out).again = s.again := rfl
@[simp] theorem State.emit_soloSec (s : State V) (out : List (V × V)) : (s.emit out).soloSec = s.soloSec := rfl
@[simp] theorem State.emit_soloState (s : State V) (out : List (V × V)) : (s.emit out).soloState = s.soloState := rfl
@[simp] theorem State.emit_io (s : State V) (out : List (V × V)) : (s.emit out).io = { s.io with audioOut := s.io.audioOut ++ outWords out } := rfl

/-! `State.commitS` -/
@[simp] theorem State.commitS_bands (s : State V) : (s.commitS).bands = mapV Band.zeroFilter s.bands := rfl
@[simp] theorem State.commitS_pg (s : State V) : (s.commitS).pg = s.pg := rfl
@[simp] theorem State.commitS_cg (s : State V) : (s.commitS).cg = { s.cg with struct := s.pg.struct, zeroLat := s.pg.zeroLat, lookahead := s.pg.lookahead } := rfl
@[simp] theorem State.commitS_gdirty (s : State V) : (s.commitS).gdirty = s.gdirty := rfl
@[simp] theorem State.commitS_pendS (s : State V) : (s.commitS).pendS = false := rfl
@[simp] theorem State.commitS_pendG (s : State V) : (s.commitS).pendG = s.pendG := rfl
@[simp] theorem State.commitS_pendB (s : State V) : (s.commitS).pendB = s.pendB := rfl
@[simp] theorem State.commitS_prepared (s : State V) : (s.commitS).prepared = s.prepared := rfl
@[simp] theorem State.commitS_fs (s : State V) : (s.commitS).fs = s.fs := rfl
@[simp] theorem State.commitS_maxblock (s : State V) : (s.commitS).maxblock = s.maxblock := rfl
@[simp] theorem State.commitS_sublen (s : State V) : (s.commitS).sublen = s.sublen := rfl
@[simp] theorem State.commitS_latency (s : State V) : (s.commitS).latency = s.latency := rfl
@[simp] theorem State.commitS_latSeq (s : State V) : (s.commitS).latSeq = s.latSeq := rfl
@[simp] theorem State.commitS_w (s : State V) : (s.commitS).w = s.w := rfl
@[simp] theorem State.commitS_base (s : State V) : (s.commitS).base = s.base := rfl
@[simp] theorem State.commitS_corr (s : State V) : (s.commitS).corr = zeroCorrHist s.corr := rfl
@[simp] theorem State.commitS_sgc (s : State V) : (s.commitS).sgc = s.sgc := rfl
@[simp] theorem State.commitS_meas (s : State V) : (s.commitS).meas = s.meas := rfl
@[simp] theorem State.commitS_again (s : State V) : (s.commitS).again = s.again := rfl
@[simp] theorem State.commitS_soloSec (s : State V) : (s.commitS).soloSec = s.soloSec := rfl
@[simp] theorem State.commitS_soloState (s : State V) : (s.commitS).soloState = s.soloState := rfl
@[simp] theorem State.commitS_io (s : State V) : (s.commitS).io = s.io := rfl

/-! `State.commitG` -/
@[simp] theorem State.commitG_bands (s : State V) : (s.commitG).bands = mapV (fun b => Band.commitG s.w b) s.bands := rfl
@[simp] theorem State.commitG_pg (s : State V) : (s.commitG).pg = s.pg := rfl
@[simp] theorem State.commitG_cg (s : State V) : (s.commitG).cg = s.cg := rfl
@[simp] theorem State.commitG_gdirty (s : State V) : (s.commitG).gdirty = s.gdirty := rfl
@[simp] theorem State.commitG_pendS (s : State V) : (s.commitG).pendS = s.pendS := rfl
@[simp] theorem State.commitG_pendG (s : State V) : (s.commitG).pendG = false := rfl
@[simp] theorem State.commitG_pendB (s : State V) : (s.commitG).pendB = s.pendB := rfl
@[simp] theorem State.commitG_prepared (s : State V) : (s.commitG).prepared = s.prepared := rfl
@[simp] theorem State.commitG_fs (s : State V) : (s.commitG).fs = s.fs := rfl
@[simp] theorem State.commitG_maxblock (s : State V) : (s.commitG).maxblock = s.maxblock := rfl
@[simp] theorem State.commitG_sublen (s : State V) : (s.commitG).sublen = s.sublen := rfl
@[simp] theorem State.commitG_latency (s : State V) : (s.commitG).latency = s.latency := rfl
@[simp] theorem State.commitG_latSeq (s : State V) : (s.commitG).latSeq = s.latSeq := rfl
@[simp] theorem State.commitG_w (s : State V) : (s.commitG).w = s.w := rfl
@[simp] theorem State.commitG_base (s : State V) : (s.commitG).base = s.base := rfl
@[simp] theorem State.commitG_la (s : State V) : (s.commitG).la = s.la := rfl
@[simp] theorem State.commitG_fifo (s : State V) : (s.commitG).fifo = s.fifo := rfl
@[simp] theorem State.commitG_sgc (s : State V) : (s.commitG).sgc = s.sgc := rfl
@[simp] theorem State.commitG_meas (s : State V) : (s.commitG).meas = s.meas := rfl
@[simp] theorem State.commitG_again (s : State V) : (s.commitG).again = s.again := rfl
@[simp] theorem State.commitG_soloSec (s : State V) : (s.commitG).soloSec = s.soloSec := rfl
@[simp] theorem State.commitG_soloState (s : State V) : (s.commitG).soloState = s.soloState := rfl
@[simp] theorem State.commitG_io (s : State V) : (s.commitG).io = s.io := rfl

/-! `State.commitB` -/
@[simp] theorem State.commitB_bands (s : State V) : (s.commitB).bands = mapV Band.commitB s.bands := rfl
@[simp] theorem State.commitB_pg (s : State V) : (s.commitB).pg = s.pg := rfl
@[simp] theorem State.commitB_cg (s : State V) : (s.commitB).cg = { s.cg with solo := s.pg.solo, effectOn := s.pg.effectOn } := rfl
@[simp] theorem State.commitB_gdirty (s : State V) : (s.commitB).gdirty = s.gdirty := rfl
@[simp] theorem State.commitB_pendS (s : State V) : (s.commitB).pendS = s.pendS := rfl
@[simp] theorem State.commitB_pendG (s : State V) : (s.commitB).pendG = s.pendG := rfl
@[simp] theorem State.commitB_pendB (s : State V) : (s.commitB).pendB = false := rfl
@[simp] theorem State.commitB_prepared (s : State V) : (s.commitB).prepared = s.prepared := rfl
@[simp] theorem State.commitB_fs (s : State V) : (s.commitB).fs = s.fs := rfl
@[simp] theorem State.commitB_maxblock (s : State V) : (s.commitB).maxblock = s.maxblock := rfl
@[simp] theorem State.commitB_sublen (s : State V) : (s.commitB).sublen = s.sublen := rfl
@[simp] theorem State.commitB_latency (s : State V) : (s.commitB).latency = s.latency := rfl
@[simp] theorem State.commitB_latSeq (s : State V) : (s.commitB).latSeq = s.latSeq := rfl
@[simp] theorem State.commitB_w (s : State V) : (s.commitB).w = s.w := rfl
@[simp] theorem State.commitB_base (s : State V) : (s.commitB).base = s.base := rfl
@[simp] theorem State.commitB_la (s : State V) : (s.commitB).la = s.la := rfl
@[simp] theorem State.commitB_fifo (s : State V) : (s.commitB).fifo = s.fifo := rfl
@[simp] theorem State.commitB_corr (s : State V) : (s.commitB).corr = s.corr := rfl
@[simp] theorem State.commitB_sgc (s : State V) : (s.commitB).sgc = s.sgc := rfl
@[simp] theorem State.commitB_meas (s : State V) : (s.commitB).meas = s.meas := rfl
@[simp] theorem State.commitB_again (s : State V) : (s.commitB).again = s.again := rfl
@[simp] theorem State.commitB_soloSec (s : State V) : (s.commitB).soloSec = s.soloSec := rfl
@[simp] theorem State.commitB_io (s : State V) : (s.commitB).io = s.io := rfl

/-! `State.commitBands` -/
@[simp] theorem State.commitBands_bands (s : State V) : (s.commitBands).bands = mapV (fun b => if b.dirty then b.commitN s.w else b) s.bands := rfl
@[simp] theorem State.commitBands_pg (s : State V) : (s.commitBands).pg = s.pg := rfl
@[simp] theorem State.commitBands_cg (s : State V) : (s.commitBands).cg = s.cg := rfl
@[simp] theorem State.commitBands_gdirty (s : State V) : (s.commitBands).gdirty = s.gdirty := rfl
@[simp] theorem State.commitBands_pendS (s : State V) : (s.commitBands).pendS = s.pendS := rfl
@[simp] theorem State.commitBands_pendG (s : State V) : (s.commitBands).pendG = s.pendG := rfl
@[simp] theorem State.commitBands_pendB (s : State V) : (s.commitBands).pendB = s.pendB := rfl
@[simp] theorem State.commitBands_prepared (s : State V) : (s.commitBands).prepared = s.prepared := rfl
@[simp] theorem State.commitBands_fs (s : State V) : (s.commitBands).fs = s.fs := rfl
@[simp] theorem State.commitBands_maxblock (s : State V) : (s.commitBands).maxblock = s.maxblock := rfl
@[simp] theorem State.commitBands_sublen (s : State V) : (s.commitBands).sublen = s.sublen := rfl
@[simp] theorem State.commitBands_latency (s : State V) : (s.commitBands).latency = s.latency := rfl
@[simp] theorem State.commitBands_latSeq (s : State V) : (s.commitBands).latSeq = s.latSeq := rfl
@[simp] theorem State.commitBands_w (s : State V) : (s.commitBands).w = s.w := rfl
@[simp] theorem State.commitBands_base (s : State V) : (s.commitBands).base = s.base := rfl
@[simp] theorem State.commitBands_la (s : State V) : (s.commitBands).la = s.la := rfl
@[simp] theorem State.commitBands_fifo (s : State V) : (s.commitBands).fifo = s.fifo := rfl
@[simp] theorem State.commitBands_corr (s : State V) : (s.commitBands).corr = s.corr := rfl
@[simp] theorem State.commitBands_sgc (s : State V) : (s.commitBands).sgc = s.sgc := rfl
@[simp] theorem State.commitBands_meas (s : State V) : (s.commitBands).meas = s.meas := rfl
@[simp] theorem State.commitBands_again (s : State V) : (s.commitBands).again = s.again := rfl
@[simp] theorem State.commitBands_soloSec (s : State V) : (s.commitBands).soloSec = s.soloSec := rfl
@[simp] theorem State.commitBands_soloState (s : State V) : (s.commitBands).soloState = s.soloState := rfl
@[simp] theorem State.commitBands_io (s : State V) : (s.commitBands).io = s.io := rfl

/-! `State.resizeTrackers` -/
@[simp] theorem State.resizeTrackers_pg (s : State V) (w : Nat) : (s.resizeTrackers w).pg = s.pg := rfl
@[simp] theorem State.resizeTrackers_cg (s : State V) (w : Nat) : (s.resizeTrackers w).cg = s.cg := rfl
@[simp] theorem State.resizeTrackers_gdirty (s : State V) (w : Nat) : (s.resizeTrackers w).gdirty = s.gdirty := rfl
@[simp] theorem State.resizeTrackers_pendS (s : State V) (w : Nat) : (s.resizeTrackers w).pendS = s.pendS := rfl
@[simp] theorem State.resizeTrackers_pendG (s : State V) (w : Nat) : (s.resizeTrackers w).pendG = s.pendG := rfl
@[simp] theorem State.resizeTrackers_pendB (s : State V) (w : Nat) : (s.resizeTrackers w).pendB = s.pendB := rfl
@[simp] theorem State.resizeTrackers_prepared (s : State V) (w : Nat) : (s.resizeTrackers w).prepared = s.prepared := rfl
@[simp] theorem State.resizeTrackers_fs (s : State V) (w : Nat) : (s.resizeTrackers w).fs = s.fs := rfl
@[simp] theorem State.resizeTrackers_maxblock (s : State V) (w : Nat) : (s.resizeTrackers w).maxblock = s.maxblock := rfl
@[simp] theorem State.resizeTrackers_sublen (s : State V) (w : Nat) : (s.resizeTrackers w).sublen = s.sublen := rfl
@[simp] theorem State.resizeTrackers_latency (s : State V) (w : Nat) : (s.resizeTrackers w).latency = s.latency := rfl
@[simp] theorem State.resizeTrackers_latSeq (s : State V) (w : Nat) : (s.resizeTrackers w).latSeq = s.latSeq := rfl
@[simp] theorem State.resizeTrackers_w (s : State V) (w : Nat) : (s.resizeTrackers w).w = w := rfl
@[simp] theorem State.resizeTrackers_base (s : State V) (w : Nat) : (s.resizeTrackers w).base = PerMode.of fun _ => Tracker.zero w := rfl
@[simp] theorem State.resizeTrackers_la (s : State V) (w : Nat) : (s.resizeTrackers w).la = s.la := rfl
@[simp] theorem State.resizeTrackers_fifo (s : State V) (w : Nat) : (s.resizeTrackers w).fifo = s.fifo := rfl
@[simp] theorem State.resizeTrackers_corr (s : State V) (w : Nat) : (s.resizeTrackers w).corr = s.corr := rfl
@[simp] theorem State.resizeTrackers_sgc (s : State V) (w : Nat) : (s.resizeTrackers w).sgc = s.sgc := rfl
@[simp] theorem State.resizeTrackers_meas (s : State V) (w : Nat) : (s.resizeTrackers w).meas = s.meas := rfl
@[simp] theorem State.resizeTrackers_again (s : State V) (w : Nat) : (s.resizeTrackers w).again = s.again := rfl
@[simp] theorem State.resizeTrackers_soloSec (s : State V) (w : Nat) : (s.resizeTrackers w).soloSec = s.soloSec := rfl
@[simp] theorem State.resizeTrackers_soloState (s : State V) (w : Nat) : (s.resizeTrackers w).soloState = s.soloState := rfl
@[simp] theorem State.resizeTrackers_io (s : State V) (w : Nat) : (s.resizeTrackers w).io = s.io := rfl

/-! `State.recompute` -/
@[simp] theorem State.recompute_bands (s : State V) : (s.recompute).bands = recomputeBands (effStruct s.cg) s.fs s.bands := rfl
@[simp] theorem State.recompute_pg (s : State V) : (s.recompute).pg = s.pg := rfl
@[simp] theorem State.recompute_cg (s : State V) : (s.recompute).cg = s.cg := rfl
@[simp] theorem State.recompute_gdirty (s : State V) : (s.recompute).gdirty = s.gdirty := rfl
@[simp] theorem State.recompute_pendS (s : State V) : (s.recompute).pendS = s.pendS := rfl
@[simp] theorem State.recompute_pendG (s : State V) : (s.recompute).pendG = s.pendG := rfl
@[simp] theorem State.recompute_pendB (s : State V) : (s.recompute).pendB = s.pendB := rfl
@[simp] theorem State.recompute_prepared (s : State V) : (s.recompute).prepared = s.prepared := rfl
@[simp] theorem State.recompute_fs (s : State V) : (s.recompute).fs = s.fs := rfl
@[simp] theorem State.recompute_maxblock (s : State V) : (s.recompute).maxblock = s.maxblock := rfl
@[simp] theorem State.recompute_sublen (s : State V) : (s.recompute).sublen = s.sublen := rfl
@[simp] theorem State.recompute_latency (s : State V) : (s.recompute).latency = s.latency := rfl
@[simp] theorem State.recompute_latSeq (s : State V) : (s.recompute).latSeq = s.latSeq := rfl
@[simp] theorem State.recompute_w (s : State V) : (s.recompute).w = s.w := rfl
@[simp] theorem State.recompute_base (s : State V) : (s.recompute).base = s.base := rfl
@[simp] theorem State.recompute_la (s : State V) : (s.recompute).la = s.la := rfl
@[simp] theorem State.recompute_fifo (s : State V) : (s.recompute).fifo = s.fifo := rfl
@[simp] theorem State.recompute_meas (s : State V) : (s.recompute).meas = s.meas := rfl
@[simp] theorem State.recompute_again (s : State V) : (s.recompute).again = s.again := rfl
@[simp] theorem State.recompute_soloState (s : State V) : (s.recompute).soloState = s.soloState := rfl
@[simp] theorem State.recompute_io (s : State V) : (s.recompute).io = s.io := rfl

/-! `State.prepareClear` -/
@[simp] theorem State.prepareClear_bands (s : State V) (m f : Nat) : (s.prepareClear m f).bands = mapV (fun b => Band.prepare (rmsWindow s.pg f) b) s.bands := rfl
@[simp] theorem State.prepareClear_pg (s : State V) (m f : Nat) : (s.prepareClear m f).pg = s.pg := rfl
@[simp] theorem State.prepareClear_cg (s : State V) (m f : Nat) : (s.prepareClear m f).cg = s.pg := rfl
@[simp] theorem State.prepareClear_gdirty (s : State V) (m f : Nat) : (s.prepareClear m f).gdirty = false := rfl
@[simp] theorem State.prepareClear_pendS (s : State V) (m f : Nat) : (s.prepareClear m f).pendS = false := rfl
@[simp] theorem State.prepareClear_pendG (s : State V) (m f : Nat) : (s.prepareClear m f).pendG = false := rfl
@[simp] theorem State.prepareClear_pendB (s : State V) (m f : Nat) : (s.prepareClear m f).pendB = false := rfl
@[simp] theorem State.prepareClear_prepared (s : State V) (m f : Nat) : (s.prepareClear m f).prepared = true := rfl
@[simp] theorem State.prepareClear_fs (s : State V) (m f : Nat) : (s.prepareClear m f).fs = f := rfl
@[simp] theorem State.prepareClear_maxblock (s : State V) (m f : Nat) : (s.prepareClear m f).maxblock = m := rfl
@[simp] theorem State.prepareClear_sublen (s : State V) (m f : Nat) : (s.prepareClear m f).sublen = subLen f := rfl
@[simp] theorem State.prepareClear_latency (s : State V) (m f : Nat) : (s.prepareClear m f).latency = s.latency := rfl
@[simp] theorem State.prepareClear_latSeq (s : State V) (m f : Nat) : (s.prepareClear m f).latSeq = s.latSeq := rfl
@[simp] theorem State.prepareClear_w (s : State V) (m f : Nat) : (s.prepareClear m f).w = rmsWindow s.pg f := rfl
@[simp] theorem State.prepareClear_base (s : State V) (m f : Nat) : (s.prepareClear m f).base = PerMode.of fun _ => Tracker.zero (rmsWindow s.pg f) := rfl
@[simp] theorem State.prepareClear_la (s : State V) (m f : Nat) : (s.prepareClear m f).la = LaLine.zero (laFrames s.pg f) := rfl
@[simp] theorem State.prepareClear_fifo (s : State V) (m f : Nat) : (s.prepareClear m f).fifo = Fifo.zero (subLen f) := rfl
@[simp] theorem State.prepareClear_corr (s : State V) (m f : Nat) : (s.prepareClear m f).corr = zeroCorrHist s.corr := rfl
@[simp] theorem State.prepareClear_sgc (s : State V) (m f : Nat) : (s.prepareClear m f).sgc = s.sgc := rfl
@[simp] theorem State.prepareClear_meas (s : State V) (m f : Nat) : (s.prepareClear m f).meas = Meas.zero := rfl
@[simp] theorem State.prepareClear_again (s : State V) (m f : Nat) : (s.prepareClear m f).again = s.again := rfl
@[simp] theorem State.prepareClear_soloSec (s : State V) (m f : Nat) : (s.prepareClear m f).soloSec = s.soloSec := rfl
@[simp] theorem State.prepareClear_soloState (s : State V) (m f : Nat) : (s.prepareClear m f).soloState = ⟨SecState.zero, SecState.zero⟩ := rfl
@[simp] theorem State.prepareClear_io (s : State V) (m f : Nat) : (s.prepareClear m f).io = s.io := rfl

/-! `State.resetCmd` -/
@[simp] theorem State.resetCmd_bands (s : State V) : s.resetCmd.bands = (State.resetIn C).bands := rfl
@[simp] theorem State.resetCmd_pg (s : State V) : s.resetCmd.pg = (State.resetIn C).pg := rfl
@[simp] theorem State.resetCmd_cg (s : State V) : s.resetCmd.cg = (State.resetIn C).cg := rfl
@[simp] theorem State.resetCmd_gdirty (s : State V) : s.resetCmd.gdirty = (State.resetIn C).gdirty := rfl
@[simp] theorem State.resetCmd_pendS (s : State V) : s.resetCmd.pendS = (State.resetIn C).pendS := rfl
@[simp] theorem State.resetCmd_pendG (s : State V) : s.resetCmd.pendG = (State.resetIn C).pendG := rfl
@[simp] theorem State.resetCmd_pendB (s : State V) : s.resetCmd.pendB = (State.resetIn C).pendB := rfl
@[simp] theorem State.resetCmd_prepared (s : State V) : s.resetCmd.prepared = (State.resetIn C).prepared := rfl
@[simp] theorem State.resetCmd_fs (s : State V) : s.resetCmd.fs = (State.resetIn C).fs := rfl
@[simp] theorem State.resetCmd_maxblock (s : State V) : s.resetCmd.maxblock = (State.resetIn C).maxblock := rfl
@[simp] theorem State.resetCmd_sublen (s : State V) : s.resetCmd.sublen = (State.resetIn C).sublen := rfl
@[simp] theorem State.resetCmd_latency (s : State V) : s.resetCmd.latency = (State.resetIn C).latency := rfl
@[simp] theorem State.resetCmd_latSeq (s : State V) : s.resetCmd.latSeq = (State.resetIn C).latSeq := rfl
@[simp] theorem State.resetCmd_w (s : State V) : s.resetCmd.w = (State.resetIn C).w := rfl
@[simp] theorem State.resetCmd_base (s : State V) : s.resetCmd.base = (State.resetIn C).base := rfl
@[simp] theorem State.resetCmd_la (s : State V) : s.resetCmd.la = (State.resetIn C).la := rfl
@[simp] theorem State.resetCmd_fifo (s : State V) : s.resetCmd.fifo = (State.resetIn C).fifo := rfl
@[simp] theorem State.resetCmd_corr (s : State V) : s.resetCmd.corr = (State.resetIn C).corr := rfl
@[simp] theorem State.resetCmd_sgc (s : State V) : s.resetCmd.sgc = (State.resetIn C).sgc := rfl
@[simp] theorem State.resetCmd_meas (s : State V) : s.resetCmd.meas = (State.resetIn C).meas := rfl
@[simp] theorem State.resetCmd_again (s : State V) : s.resetCmd.again = (State.resetIn C).again := rfl
@[simp] theorem State.resetCmd_soloSec (s : State V) : s.resetCmd.soloSec = (State.resetIn C).soloSec := rfl
@[simp] theorem State.resetCmd_soloState (s : State V) : s.resetCmd.soloState = (State.resetIn C).soloState := rfl
@[simp] theorem State.resetCmd_io (s : State V) : s.resetCmd.io = s.io := rfl

/-! Updates that branch: the fields no branch writes. -/
@[simp] theorem State.writeBand_pg (s : State V) (r : BandReg) (b : Nat) (d : DataWord) : (s.writeBand r b d).pg = s.pg := by
  unfold State.writeBand; split
  · split <;> simp
  · rfl
@[simp] theorem State.writeBand_cg (s : State V) (r : BandReg) (b : Nat) (d : DataWord) : (s.writeBand r b d).cg = s.cg := by
  unfold State.writeBand; split
  · split <;> simp
  · rfl
@[simp] theorem State.writeBand_gdirty (s : State V) (r : BandReg) (b : Nat) (d : DataWord) : (s.writeBand r b d).gdirty = s.gdirty := by
  unfold State.writeBand; split
  · split <;> simp
  · rfl
@[simp] theorem State.writeBand_prepared (s : State V) (r : BandReg) (b : Nat) (d : DataWord) : (s.writeBand r b d).prepared = s.prepared := by
  unfold State.writeBand; split
  · split <;> simp
  · rfl
@[simp] theorem State.writeBand_fs (s : State V) (r : BandReg) (b : Nat) (d : DataWord) : (s.writeBand r b d).fs = s.fs := by
  unfold State.writeBand; split
  · split <;> simp
  · rfl
@[simp] theorem State.writeBand_maxblock (s : State V) (r : BandReg) (b : Nat) (d : DataWord) : (s.writeBand r b d).maxblock = s.maxblock := by
  unfold State.writeBand; split
  · split <;> simp
  · rfl
@[simp] theorem State.writeBand_sublen (s : State V) (r : BandReg) (b : Nat) (d : DataWord) : (s.writeBand r b d).sublen = s.sublen := by
  unfold State.writeBand; split
  · split <;> simp
  · rfl
@[simp] theorem State.writeBand_latency (s : State V) (r : BandReg) (b : Nat) (d : DataWord) : (s.writeBand r b d).latency = s.latency := by
  unfold State.writeBand; split
  · split <;> simp
  · rfl
@[simp] theorem State.writeBand_latSeq (s : State V) (r : BandReg) (b : Nat) (d : DataWord) : (s.writeBand r b d).latSeq = s.latSeq := by
  unfold State.writeBand; split
  · split <;> simp
  · rfl
@[simp] theorem State.writeBand_w (s : State V) (r : BandReg) (b : Nat) (d : DataWord) : (s.writeBand r b d).w = s.w := by
  unfold State.writeBand; split
  · split <;> simp
  · rfl
@[simp] theorem State.writeBand_base (s : State V) (r : BandReg) (b : Nat) (d : DataWord) : (s.writeBand r b d).base = s.base := by
  unfold State.writeBand; split
  · split <;> simp
  · rfl
@[simp] theorem State.writeBand_la (s : State V) (r : BandReg) (b : Nat) (d : DataWord) : (s.writeBand r b d).la = s.la := by
  unfold State.writeBand; split
  · split <;> simp
  · rfl
@[simp] theorem State.writeBand_fifo (s : State V) (r : BandReg) (b : Nat) (d : DataWord) : (s.writeBand r b d).fifo = s.fifo := by
  unfold State.writeBand; split
  · split <;> simp
  · rfl
@[simp] theorem State.writeBand_corr (s : State V) (r : BandReg) (b : Nat) (d : DataWord) : (s.writeBand r b d).corr = s.corr := by
  unfold State.writeBand; split
  · split <;> simp
  · rfl
@[simp] theorem State.writeBand_sgc (s : State V) (r : BandReg) (b : Nat) (d : DataWord) : (s.writeBand r b d).sgc = s.sgc := by
  unfold State.writeBand; split
  · split <;> simp
  · rfl
@[simp] theorem State.writeBand_meas (s : State V) (r : BandReg) (b : Nat) (d : DataWord) : (s.writeBand r b d).meas = s.meas := by
  unfold State.writeBand; split
  · split <;> simp
  · rfl
@[simp] theorem State.writeBand_again (s : State V) (r : BandReg) (b : Nat) (d : DataWord) : (s.writeBand r b d).again = s.again := by
  unfold State.writeBand; split
  · split <;> simp
  · rfl
@[simp] theorem State.writeBand_soloSec (s : State V) (r : BandReg) (b : Nat) (d : DataWord) : (s.writeBand r b d).soloSec = s.soloSec := by
  unfold State.writeBand; split
  · split <;> simp
  · rfl
@[simp] theorem State.writeBand_soloState (s : State V) (r : BandReg) (b : Nat) (d : DataWord) : (s.writeBand r b d).soloState = s.soloState := by
  unfold State.writeBand; split
  · split <;> simp
  · rfl
@[simp] theorem State.writeBand_io (s : State V) (r : BandReg) (b : Nat) (d : DataWord) : (s.writeBand r b d).io = s.io := by
  unfold State.writeBand; split
  · split <;> simp
  · rfl

@[simp] theorem State.writeGlobal_bands (s : State V) (r : GlobalReg) (d : DataWord) : (s.writeGlobal r d).bands = s.bands := by
  unfold State.writeGlobal; split <;> simp
@[simp] theorem State.writeGlobal_cg (s : State V) (r : GlobalReg) (d : DataWord) : (s.writeGlobal r d).cg = s.cg := by
  unfold State.writeGlobal; split <;> simp
@[simp] theorem State.writeGlobal_prepared (s : State V) (r : GlobalReg) (d : DataWord) : (s.writeGlobal r d).prepared = s.prepared := by
  unfold State.writeGlobal; split <;> simp
@[simp] theorem State.writeGlobal_fs (s : State V) (r : GlobalReg) (d : DataWord) : (s.writeGlobal r d).fs = s.fs := by
  unfold State.writeGlobal; split <;> simp
@[simp] theorem State.writeGlobal_maxblock (s : State V) (r : GlobalReg) (d : DataWord) : (s.writeGlobal r d).maxblock = s.maxblock := by
  unfold State.writeGlobal; split <;> simp
@[simp] theorem State.writeGlobal_sublen (s : State V) (r : GlobalReg) (d : DataWord) : (s.writeGlobal r d).sublen = s.sublen := by
  unfold State.writeGlobal; split <;> simp
@[simp] theorem State.writeGlobal_latency (s : State V) (r : GlobalReg) (d : DataWord) : (s.writeGlobal r d).latency = s.latency := by
  unfold State.writeGlobal; split <;> simp
@[simp] theorem State.writeGlobal_latSeq (s : State V) (r : GlobalReg) (d : DataWord) : (s.writeGlobal r d).latSeq = s.latSeq := by
  unfold State.writeGlobal; split <;> simp
@[simp] theorem State.writeGlobal_w (s : State V) (r : GlobalReg) (d : DataWord) : (s.writeGlobal r d).w = s.w := by
  unfold State.writeGlobal; split <;> simp
@[simp] theorem State.writeGlobal_base (s : State V) (r : GlobalReg) (d : DataWord) : (s.writeGlobal r d).base = s.base := by
  unfold State.writeGlobal; split <;> simp
@[simp] theorem State.writeGlobal_la (s : State V) (r : GlobalReg) (d : DataWord) : (s.writeGlobal r d).la = s.la := by
  unfold State.writeGlobal; split <;> simp
@[simp] theorem State.writeGlobal_fifo (s : State V) (r : GlobalReg) (d : DataWord) : (s.writeGlobal r d).fifo = s.fifo := by
  unfold State.writeGlobal; split <;> simp
@[simp] theorem State.writeGlobal_corr (s : State V) (r : GlobalReg) (d : DataWord) : (s.writeGlobal r d).corr = s.corr := by
  unfold State.writeGlobal; split <;> simp
@[simp] theorem State.writeGlobal_sgc (s : State V) (r : GlobalReg) (d : DataWord) : (s.writeGlobal r d).sgc = s.sgc := by
  unfold State.writeGlobal; split <;> simp
@[simp] theorem State.writeGlobal_meas (s : State V) (r : GlobalReg) (d : DataWord) : (s.writeGlobal r d).meas = s.meas := by
  unfold State.writeGlobal; split <;> simp
@[simp] theorem State.writeGlobal_again (s : State V) (r : GlobalReg) (d : DataWord) : (s.writeGlobal r d).again = s.again := by
  unfold State.writeGlobal; split <;> simp
@[simp] theorem State.writeGlobal_soloSec (s : State V) (r : GlobalReg) (d : DataWord) : (s.writeGlobal r d).soloSec = s.soloSec := by
  unfold State.writeGlobal; split <;> simp
@[simp] theorem State.writeGlobal_soloState (s : State V) (r : GlobalReg) (d : DataWord) : (s.writeGlobal r d).soloState = s.soloState := by
  unfold State.writeGlobal; split <;> simp
@[simp] theorem State.writeGlobal_io (s : State V) (r : GlobalReg) (d : DataWord) : (s.writeGlobal r d).io = s.io := by
  unfold State.writeGlobal; split <;> simp

@[simp] theorem State.updateLatency_bands (s : State V) : (s.updateLatency).bands = s.bands := by unfold State.updateLatency; split <;> rfl
@[simp] theorem State.updateLatency_pg (s : State V) : (s.updateLatency).pg = s.pg := by unfold State.updateLatency; split <;> rfl
@[simp] theorem State.updateLatency_cg (s : State V) : (s.updateLatency).cg = s.cg := by unfold State.updateLatency; split <;> rfl
@[simp] theorem State.updateLatency_gdirty (s : State V) : (s.updateLatency).gdirty = s.gdirty := by unfold State.updateLatency; split <;> rfl
@[simp] theorem State.updateLatency_pendS (s : State V) : (s.updateLatency).pendS = s.pendS := by unfold State.updateLatency; split <;> rfl
@[simp] theorem State.updateLatency_pendG (s : State V) : (s.updateLatency).pendG = s.pendG := by unfold State.updateLatency; split <;> rfl
@[simp] theorem State.updateLatency_pendB (s : State V) : (s.updateLatency).pendB = s.pendB := by unfold State.updateLatency; split <;> rfl
@[simp] theorem State.updateLatency_prepared (s : State V) : (s.updateLatency).prepared = s.prepared := by unfold State.updateLatency; split <;> rfl
@[simp] theorem State.updateLatency_fs (s : State V) : (s.updateLatency).fs = s.fs := by unfold State.updateLatency; split <;> rfl
@[simp] theorem State.updateLatency_maxblock (s : State V) : (s.updateLatency).maxblock = s.maxblock := by unfold State.updateLatency; split <;> rfl
@[simp] theorem State.updateLatency_sublen (s : State V) : (s.updateLatency).sublen = s.sublen := by unfold State.updateLatency; split <;> rfl
@[simp] theorem State.updateLatency_w (s : State V) : (s.updateLatency).w = s.w := by unfold State.updateLatency; split <;> rfl
@[simp] theorem State.updateLatency_base (s : State V) : (s.updateLatency).base = s.base := by unfold State.updateLatency; split <;> rfl
@[simp] theorem State.updateLatency_la (s : State V) : (s.updateLatency).la = s.la := by unfold State.updateLatency; split <;> rfl
@[simp] theorem State.updateLatency_fifo (s : State V) : (s.updateLatency).fifo = s.fifo := by unfold State.updateLatency; split <;> rfl
@[simp] theorem State.updateLatency_corr (s : State V) : (s.updateLatency).corr = s.corr := by unfold State.updateLatency; split <;> rfl
@[simp] theorem State.updateLatency_sgc (s : State V) : (s.updateLatency).sgc = s.sgc := by unfold State.updateLatency; split <;> rfl
@[simp] theorem State.updateLatency_meas (s : State V) : (s.updateLatency).meas = s.meas := by unfold State.updateLatency; split <;> rfl
@[simp] theorem State.updateLatency_again (s : State V) : (s.updateLatency).again = s.again := by unfold State.updateLatency; split <;> rfl
@[simp] theorem State.updateLatency_soloSec (s : State V) : (s.updateLatency).soloSec = s.soloSec := by unfold State.updateLatency; split <;> rfl
@[simp] theorem State.updateLatency_soloState (s : State V) : (s.updateLatency).soloState = s.soloState := by unfold State.updateLatency; split <;> rfl

@[simp] theorem State.commitGlobal_pg (s : State V) : (s.commitGlobal).pg = s.pg := by unfold State.commitGlobal; dsimp only; split <;> simp
@[simp] theorem State.commitGlobal_pendS (s : State V) : (s.commitGlobal).pendS = s.pendS := by unfold State.commitGlobal; dsimp only; split <;> simp
@[simp] theorem State.commitGlobal_pendG (s : State V) : (s.commitGlobal).pendG = s.pendG := by unfold State.commitGlobal; dsimp only; split <;> simp
@[simp] theorem State.commitGlobal_pendB (s : State V) : (s.commitGlobal).pendB = s.pendB := by unfold State.commitGlobal; dsimp only; split <;> simp
@[simp] theorem State.commitGlobal_prepared (s : State V) : (s.commitGlobal).prepared = s.prepared := by unfold State.commitGlobal; dsimp only; split <;> simp
@[simp] theorem State.commitGlobal_fs (s : State V) : (s.commitGlobal).fs = s.fs := by unfold State.commitGlobal; dsimp only; split <;> simp
@[simp] theorem State.commitGlobal_maxblock (s : State V) : (s.commitGlobal).maxblock = s.maxblock := by unfold State.commitGlobal; dsimp only; split <;> simp
@[simp] theorem State.commitGlobal_sublen (s : State V) : (s.commitGlobal).sublen = s.sublen := by unfold State.commitGlobal; dsimp only; split <;> simp
@[simp] theorem State.commitGlobal_latency (s : State V) : (s.commitGlobal).latency = s.latency := by unfold State.commitGlobal; dsimp only; split <;> simp
@[simp] theorem State.commitGlobal_latSeq (s : State V) : (s.commitGlobal).latSeq = s.latSeq := by unfold State.commitGlobal; dsimp only; split <;> simp
@[simp] theorem State.commitGlobal_la (s : State V) : (s.commitGlobal).la = s.la := by unfold State.commitGlobal; dsimp only; split <;> simp
@[simp] theorem State.commitGlobal_fifo (s : State V) : (s.commitGlobal).fifo = s.fifo := by unfold State.commitGlobal; dsimp only; split <;> simp
@[simp] theorem State.commitGlobal_corr (s : State V) : (s.commitGlobal).corr = s.corr := by unfold State.commitGlobal; dsimp only; split <;> simp
@[simp] theorem State.commitGlobal_sgc (s : State V) : (s.commitGlobal).sgc = s.sgc := by unfold State.commitGlobal; dsimp only; split <;> simp
@[simp] theorem State.commitGlobal_soloSec (s : State V) : (s.commitGlobal).soloSec = s.soloSec := by unfold State.commitGlobal; dsimp only; split <;> simp
@[simp] theorem State.commitGlobal_soloState (s : State V) : (s.commitGlobal).soloState = s.soloState := by unfold State.commitGlobal; dsimp only; split <;> simp
@[simp] theorem State.commitGlobal_io (s : State V) : (s.commitGlobal).io = s.io := by unfold State.commitGlobal; dsimp only; split <;> simp

@[simp] theorem State.commitGlobal_gdirty (s : State V) : s.commitGlobal.gdirty = false := rfl

@[simp] theorem State.commitGlobal_cg (s : State V) : s.commitGlobal.cg = s.cg.takeN s.pg := rfl

end Sys2Proof.Machine
end

