-- ==== Sys2Proof/Laws/Ops.lean ====
section
/-! SUPPORT. One lemma for each shared operation of Machine/Ops.lean and Machine/Flags.lean: everything it can do. -/

namespace Sys2Proof.Machine

set_option linter.unusedSectionVars false

variable {V : Type} [Zero V] [One V] [NatCast V] [Add V] [Sub V] [Neg V] [Mul V] [Div V]
  [LT V] [LE V] [BEq V] [Min V] [Max V] [DecidableLT V] [DecidableLE V] {C : Config V}

/-! ### Walks -/

@[simp] theorem mapV_get {α β : Type} {n : Nat} (f : α → β) (v : Vector α n) (i : Nat) (h : i < n) :
    (mapV f v)[i] = f v[i] := by
  simp [mapV]

@[simp] theorem mapV_getFin {α β : Type} {n : Nat} (f : α → β) (v : Vector α n) (i : Fin n) :
    (mapV f v)[i] = f v[i] := mapV_get f v i i.isLt

@[simp] theorem mapV_toList {α β : Type} {n : Nat} (f : α → β) (v : Vector α n) :
    (mapV f v).toList = v.toList.map f := by
  simp [mapV]

/-- A function equal to the identity on every element changes nothing. -/
theorem mapV_eq_self {α : Type} {n : Nat} (f : α → α) (v : Vector α n) (h : ∀ i (hi : i < n), f v[i] = v[i]) :
    mapV f v = v := by
  apply Vector.ext
  intro i hi
  rw [mapV_get, h i hi]

/-- Two maps in a row are one. -/
theorem mapV_mapV {α β γ : Type} {n : Nat} (g : β → γ) (f : α → β) (v : Vector α n) :
    mapV g (mapV f v) = mapV (fun x => g (f x)) v := by
  apply Vector.ext
  intro i hi
  simp

theorem accL_getElem {σ α : Type} (f : Nat → σ → α → σ × α) :
    ∀ (xs : List α) (i : Nat) (a : σ) (j : Nat) (h : j < xs.length),
      ∃ a', ((accL f i a xs).2)[j]'(by rw [accL_length]; exact h) = (f (i + j) a' xs[j]).2
  | x :: xs, i, a, 0, _ => ⟨a, rfl⟩
  | x :: xs, i, a, j + 1, h => by
    obtain ⟨a', e⟩ := accL_getElem f xs (i + 1) (f i a x).1 j (by simpa using h)
    refine ⟨a', ?_⟩
    simp only [accL, List.getElem_cons_succ]
    rw [e, show i + 1 + j = i + (j + 1) by omega]

/-- Each element of a walk is the walk's function at some accumulator. -/
theorem accV_get {σ α : Type} {n : Nat} (f : Nat → σ → α → σ × α) (a : σ) (v : Vector α n) (j : Nat) (h : j < n) :
    ∃ a', (accV f a v).2[j] = (f j a' v[j]).2 := by
  obtain ⟨a', e⟩ := accL_getElem f v.toList 0 a j (by simpa using h)
  exact ⟨a', by simpa [accV] using e⟩

theorem accL_inv {σ α : Type} (P : σ → Prop) (f : Nat → σ → α → σ × α) (hf : ∀ i a x, P a → P (f i a x).1) :
    ∀ (xs : List α) (i : Nat) (a : σ), P a → P (accL f i a xs).1
  | [], _, _, h => h
  | x :: xs, i, a, h => accL_inv P f hf xs (i + 1) (f i a x).1 (hf i a x h)

/-- What every step of a walk keeps of the accumulator holds at its end. -/
theorem accV_inv {σ α : Type} {n : Nat} (P : σ → Prop) (f : Nat → σ → α → σ × α) (hf : ∀ i a x, P a → P (f i a x).1)
    (a : σ) (v : Vector α n) (h : P a) : P (accV f a v).1 := accL_inv P f hf v.toList 0 a h

/-! ### Ports -/

/-- A response goes to the port of the running command and nowhere else. -/
theorem State.respond_io (s : State V) (r : DataWord) :
    (s.respond r).io =
      { s.io with
        respCtrl := if s.io.cur = .ctrl then s.io.respCtrl ++ [r] else s.io.respCtrl
        respAudio := if s.io.cur = .audio then s.io.respAudio ++ [r] else s.io.respAudio } := by
  unfold State.respond
  cases h : s.io.cur <;> simp

/-- A reserved word changes nothing, or answers 0. -/
theorem State.reserved_cases (s : State V) (w : CmdWord) : s.reserved w = s ∨ s.reserved w = s.respond 0 := by
  unfold State.reserved
  split
  · exact .inr rfl
  · exact .inl rfl

/-! ### Register writes -/

/-- A WRB changes nothing, or stores a value in one band's staged file and sets the flag of the register's class. -/
theorem State.writeBand_cases (s : State V) (r : BandReg) (band : Nat) (data : DataWord) :
    s.writeBand r band data = s ∨
      ∃ (h : band < Config.numBands) (x : BandRegs V), r.store data s.bands[band].staged = some x ∧
        s.writeBand r band data =
          ({ s with bands := s.bands.set band { s.bands[band] with staged := x } }).flagBand ⟨band, h⟩ r.cls := by
  unfold State.writeBand
  split
  · rename_i h
    cases e : r.store data s.bands[band].staged with
    | none => exact .inl rfl
    | some x => exact .inr ⟨h, x, e, rfl⟩
  · exact .inl rfl

/-- A WRG changes nothing, or stores a value in the staged file and sets the flag of the register's class. -/
theorem State.writeGlobal_cases (s : State V) (r : GlobalReg) (data : DataWord) :
    s.writeGlobal r data = s ∨
      ∃ x, r.store data s.pg = some x ∧ s.writeGlobal r data = ({ s with pg := x }).flagGlobal r.cls := by
  unfold State.writeGlobal
  cases e : r.store data s.pg with
  | none => exact .inl rfl
  | some x => exact .inr ⟨x, rfl, rfl⟩

/-! ### Latency -/

/-- LATENCY after an update is the latency of the committed registers. -/
@[simp] theorem State.updateLatency_latency (s : State V) : s.updateLatency.latency = s.latencyOf := by
  unfold State.updateLatency
  split
  · rename_i h; exact h.symm
  · rfl

/-- The latency of a state reads its committed globals, FS, SUBLEN and the bands only. -/
theorem State.latencyOf_congr {s t : State V} (hcg : t.cg = s.cg) (hfs : t.fs = s.fs) (hsub : t.sublen = s.sublen)
    (hb : groupCount t.bands = groupCount s.bands) : t.latencyOf = s.latencyOf := by
  unfold State.latencyOf
  rw [hcg, hfs, hsub, hb]

@[simp] theorem State.updateLatency_latencyOf (s : State V) : s.updateLatency.latencyOf = s.latencyOf :=
  State.latencyOf_congr (by simp) (by simp) (by simp) (by simp)

/-- Which groups are in use depends on the committed ACTIVE and STEREO of the bands only. -/
theorem groupInUse_congr {v w : Vector (Band V) Config.numBands}
    (h : ∀ i (hi : i < Config.numBands), w[i].comm.active = v[i].comm.active ∧ w[i].comm.stereo = v[i].comm.stereo)
    (g : Group) : groupInUse w g = groupInUse v g := by
  have e : w.toList.map (·.usesGroup g) = v.toList.map (·.usesGroup g) := by
    apply List.ext_getElem
    · simp
    · intro i h1 h2
      have hi : i < Config.numBands := by simpa using h1
      simp [Band.usesGroup, (h i hi).1, (h i hi).2]
  have f : ∀ u : Vector (Band V) Config.numBands, u.toList.any (·.usesGroup g) = (u.toList.map (·.usesGroup g)).any id := by
    intro u; simp [List.any_map]
  cases g <;> simp only [groupInUse] <;> rw [f, f, e]

/-- So does their count. -/
theorem groupCount_congr {v w : Vector (Band V) Config.numBands}
    (h : ∀ i (hi : i < Config.numBands), w[i].comm.active = v[i].comm.active ∧ w[i].comm.stereo = v[i].comm.stereo) :
    groupCount w = groupCount v := by
  simp only [groupCount, groupInUse_congr h]

end Sys2Proof.Machine
end

