-- ==== Sys2Proof/Laws/SignalPath.lean ====
section
/-! SUPPORT. The signal path: what PROCESS's frames can change, once for each operation, and how a property of a band or of
the state is carried through a sub-block and through a whole PROCESS. -/

namespace Sys2Proof.Machine

set_option linter.unusedSectionVars false

variable {V : Type} [Zero V] [One V] [NatCast V] [Add V] [Sub V] [Neg V] [Mul V] [Div V]
  [LT V] [LE V] [BEq V] [Min V] [Max V] [DecidableLT V] [DecidableLE V] {C : Config V}

/-! ### What one sub-block writes -/

/-- `t` is `s` with at most the signal state changed: bands, trackers, delay lines, corrections, solo state, accumulators,
and the publication draws and output words at the ports. -/
def State.SignalOf (s t : State V) : Prop :=
  ∃ bands base la fifo corr meas solo publish out,
    t = { s with
      bands := bands, base := base, la := la, fifo := fifo, corr := corr, meas := meas, soloState := solo
      io := { s.io with publish := publish, audioOut := out } }

theorem State.SignalOf.refl (s : State V) : s.SignalOf s :=
  ⟨s.bands, s.base, s.la, s.fifo, s.corr, s.meas, s.soloState, s.io.publish, s.io.audioOut, rfl⟩

theorem State.SignalOf.trans {s t u : State V} (h : s.SignalOf t) (k : t.SignalOf u) : s.SignalOf u := by
  obtain ⟨_, _, _, _, _, _, _, _, _, rfl⟩ := h
  obtain ⟨a, b, c, d, e, f, g, p, o, rfl⟩ := k
  exact ⟨a, b, c, d, e, f, g, p, o, rfl⟩

/-- What the signal path never writes. -/
theorem State.SignalOf.frame {s t : State V} (h : s.SignalOf t) :
    t.pg = s.pg ∧ t.cg = s.cg ∧ t.gdirty = s.gdirty ∧ t.pendS = s.pendS ∧ t.pendG = s.pendG ∧ t.pendB = s.pendB ∧
    t.prepared = s.prepared ∧ t.fs = s.fs ∧ t.maxblock = s.maxblock ∧ t.sublen = s.sublen ∧ t.latency = s.latency ∧
    t.latSeq = s.latSeq ∧ t.w = s.w ∧ t.sgc = s.sgc ∧ t.again = s.again ∧ t.soloSec = s.soloSec := by
  obtain ⟨_, _, _, _, _, _, _, _, _, rfl⟩ := h
  exact ⟨rfl, rfl, rfl, rfl, rfl, rfl, rfl, rfl, rfl, rfl, rfl, rfl, rfl, rfl, rfl, rfl⟩

/-- What the signal path never writes at the ports. -/
theorem State.SignalOf.ports {s t : State V} (h : s.SignalOf t) :
    t.io.cmds = s.io.cmds ∧ t.io.audioIn = s.io.audioIn ∧ t.io.respCtrl = s.io.respCtrl ∧
    t.io.respAudio = s.io.respAudio ∧ t.io.events = s.io.events ∧ t.io.cur = s.io.cur := by
  obtain ⟨_, _, _, _, _, _, _, _, _, rfl⟩ := h
  exact ⟨rfl, rfl, rfl, rfl, rfl, rfl⟩

theorem detectStage_signal (s : State V) (fr : List (Frame V)) : s.SignalOf (detectStage s fr).2 :=
  ⟨_, _, s.la, s.fifo, s.corr, s.meas, s.soloState, _, s.io.audioOut, rfl⟩

theorem slotStage_signal (mode : Mode) (ts : List (List V)) (g : Group) (k : Slot) (s : State V) (xs : List V) :
    s.SignalOf (slotStage mode ts g k s xs).2 :=
  ⟨_, s.base, s.la, s.fifo, _, s.meas, s.soloState, s.io.publish, s.io.audioOut, rfl⟩

theorem groupStage_signal (mode : Mode) (ts : List (List V)) (g : Group) (s : State V) (x : Pair V) :
    s.SignalOf (groupStage mode ts g s x).2 := by
  unfold groupStage
  split
  · exact (slotStage_signal ..).trans (slotStage_signal ..)
  · exact .refl s

theorem soloStage_signal (mode : Mode) (s : State V) (x : Pair V) : s.SignalOf (soloStage mode s x).2 := by
  unfold soloStage
  split
  · exact ⟨s.bands, s.base, s.la, s.fifo, s.corr, s.meas, _, s.io.publish, s.io.audioOut, rfl⟩
  · exact .refl s

theorem postStage_signal (mode : Mode) (s : State V) (x : Pair V) : s.SignalOf (postStage mode s x).2 := by
  unfold postStage
  split
  · dsimp only
    split
    · exact ⟨s.bands, s.base, s.la, s.fifo, s.corr, _, s.soloState, s.io.publish, s.io.audioOut, rfl⟩
    · exact .refl s
  · exact .refl s

theorem mainStage_signal (ts : List (List V)) (s : State V) (x : Pair V) : s.SignalOf (mainStage ts s x).2 :=
  (soloStage_signal ..).trans <| (groupStage_signal ..).trans <| (groupStage_signal ..).trans <|
    (groupStage_signal ..).trans (postStage_signal ..)

/-- A sub-block writes signal state only. -/
theorem subblock_signal (s : State V) (fr : List (Frame V)) : s.SignalOf (subblock s fr).2 :=
  (detectStage_signal s fr).trans (mainStage_signal ..)

theorem frontFrame_signal (s : State V) (f : Frame V) : s.SignalOf (frontFrame s f).2 :=
  ⟨s.bands, s.base, _, s.fifo, s.corr, _, s.soloState, s.io.publish, s.io.audioOut, rfl⟩

theorem frontRun_signal : ∀ (fr : List (Frame V)) (s : State V), s.SignalOf (frontRun s fr).2
  | [], s => .refl s
  | f :: fr, s => (frontFrame_signal s f).trans (frontRun_signal fr _)

theorem fifo_signal (s : State V) (q : Fifo V) : s.SignalOf { s with fifo := q } :=
  ⟨s.bands, s.base, s.la, q, s.corr, s.meas, s.soloState, s.io.publish, s.io.audioOut, rfl⟩

theorem fifoPush_signal (s : State V) (f : Frame V) : s.SignalOf (fifoPush s f).2 := by
  unfold fifoPush
  dsimp only
  split
  · exact ((fifo_signal s _).trans (subblock_signal _ (s.fifo.inp.set s.fifo.pos f))).trans (fifo_signal _ _)
  · exact fifo_signal s _

theorem fifoRun_signal : ∀ (fr : List (Frame V)) (s : State V), s.SignalOf (fifoRun s fr).2
  | [], s => .refl s
  | f :: fr, s => (fifoPush_signal s f).trans (fifoRun_signal fr _)

theorem chunkRun_signal : ∀ (cs : List (List (Frame V))) (s : State V), s.SignalOf (chunkRun s cs).2
  | [], s => .refl s
  | c :: cs, s => (subblock_signal s c).trans (chunkRun_signal cs _)

theorem splitRun_signal (s : State V) (fr : List (Frame V)) : s.SignalOf (splitRun s fr).2 := by
  unfold splitRun
  split
  · exact chunkRun_signal _ s
  · exact fifoRun_signal fr s

theorem emit_signal (s : State V) (out : List (V × V)) : s.SignalOf (s.emit out) :=
  ⟨s.bands, s.base, s.la, s.fifo, s.corr, s.meas, s.soloState, s.io.publish, _, rfl⟩

/-- The frames of a PROCESS write signal state only: registers, flags, coefficients' parameters, sizes, LATENCY and AGAIN rest
until the next commit. -/
theorem processFrames_signal (s : State V) (fr : List (Frame V)) : s.SignalOf (processFrames s fr) :=
  ((frontRun_signal fr s).trans (splitRun_signal _ _)).trans (emit_signal _ _)

/-! ### Carrying a property of the state -/

/-- A property of the state that the operations of the signal path keep. -/
structure State.PathKeeps (C : Config V) (P : State V → Prop) : Prop where
  sub : ∀ s fr, P s → P (subblock s fr).2
  front : ∀ s f, P s → P (frontFrame s f).2
  push : ∀ s f, P s → P (fifoPush s f).2
  emit : ∀ s out, P s → P (s.emit out)

theorem State.PathKeeps.frontRun {P : State V → Prop} (h : State.PathKeeps C P) :
    ∀ (fr : List (Frame V)) (s : State V), P s → P (frontRun s fr).2
  | [], _, hs => hs
  | f :: fr, s, hs => h.frontRun fr _ (h.front s f hs)

theorem State.PathKeeps.fifoRun {P : State V → Prop} (h : State.PathKeeps C P) :
    ∀ (fr : List (Frame V)) (s : State V), P s → P (fifoRun s fr).2
  | [], _, hs => hs
  | f :: fr, s, hs => h.fifoRun fr _ (h.push s f hs)

theorem State.PathKeeps.chunkRun {P : State V → Prop} (h : State.PathKeeps C P) :
    ∀ (cs : List (List (Frame V))) (s : State V), P s → P (chunkRun s cs).2
  | [], _, hs => hs
  | c :: cs, s, hs => h.chunkRun cs _ (h.sub s c hs)

/-- What the operations of the signal path keep holds after a PROCESS's frames. -/
theorem State.PathKeeps.processFrames {P : State V → Prop} (h : State.PathKeeps C P) (s : State V) (fr : List (Frame V)) (hs : P s) :
    P (processFrames s fr) := by
  unfold Machine.processFrames Machine.splitRun
  apply h.emit
  split
  · exact h.chunkRun _ _ (h.frontRun fr s hs)
  · exact h.fifoRun _ _ (h.frontRun fr s hs)

/-! ### Carrying a property of a band -/

/-- A property of a band that the operations of the signal path on it keep. -/
structure Band.PathKeeps (C : Config V) (w : Nat) (P : Band V → Prop) : Prop where
  tick : ∀ b side, b.detects = true → P b → P (b.detTick w side)
  update : ∀ cg fs n push ok sums b, b.detects = true → P b → P (b.update cg fs w n push ok sums)
  sections : ∀ fs t b, P b → P (b.sectionsAt fs t)
  filter : ∀ es slot x b, P b → P { b with fstate := b.fstate.set slot (cascade es b.coefs.curSecs (b.fstate.get slot) x).2 }

@[simp] theorem Band.detTick_comm (w : Nat) (b : Band V) (side : V × V) : (b.detTick w side).comm = b.comm := rfl

@[simp] theorem Band.envelope_comm (fs n : Nat) (lb ref : V) (b : Band V) : (b.envelope fs n lb ref).comm = b.comm := rfl

@[simp] theorem Band.publishLevel_comm (ok : Bool) (b : Band V) : (b.publishLevel ok).comm = b.comm := by
  unfold Band.publishLevel; split <;> rfl

@[simp] theorem Band.learnStep_comm (cg : GlobalRegs V) (lb ref : V) (ok : Bool) (b : Band V) :
    (b.learnStep cg lb ref ok).comm = b.comm := by
  unfold Band.learnStep
  split
  · dsimp only; split <;> rfl
  · rfl

@[simp] theorem Band.update_comm (cg : GlobalRegs V) (fs w n : Nat) (push ok : Bool) (sums : PerMode V) (b : Band V) :
    (b.update cg fs w n push ok sums).comm = b.comm := by
  unfold Band.update
  dsimp only
  split <;> simp

@[simp] theorem Band.detTick_detects (w : Nat) (b : Band V) (side : V × V) : (b.detTick w side).detects = b.detects := rfl

@[simp] theorem Band.update_detects (cg : GlobalRegs V) (fs w n : Nat) (push ok : Bool) (sums : PerMode V) (b : Band V) :
    (b.update cg fs w n push ok sums).detects = b.detects := by simp [Band.detects]

theorem detectTicks_keeps {w : Nat} {P : Band V → Prop} (h : Band.PathKeeps C w P) :
    ∀ (fr : List ((V × V) × PerMode V)) (b : Band V), b.detects = true → P b →
      (detectTicks w b fr).detects = true ∧ P (detectTicks w b fr)
  | [], _, hd, hb => ⟨hd, hb⟩
  | f :: fr, b, hd, hb => detectTicks_keeps h fr (b.detTick w f.1) (by simpa using hd) (h.tick b f.1 hd hb)

theorem detectHq_keeps {w : Nat} {P : Band V → Prop} (h : Band.PathKeeps C w P) (cg : GlobalRegs V) (fs : Nat) :
    ∀ (fr : List ((V × V) × PerMode V)) (draws : List Bool) (b : Band V), b.detects = true → P b →
      P (detectHq cg fs w draws b fr).2.2
  | [], _, _, _, hb => hb
  | f :: fr, draws, b, hd, hb => by
    have h1 := h.tick b f.1 hd hb
    exact detectHq_keeps h cg fs fr draws.tail _ (by simpa using hd)
      (h.update cg fs 1 fr.isEmpty (nextDraw draws) f.2 _ (by simpa using hd) h1)

/-- DETECT keeps what its ticks and updates keep. -/
theorem detect_keeps {w : Nat} {P : Band V → Prop} (h : Band.PathKeeps C w P) (cg : GlobalRegs V) (fs : Nat) (draws : List Bool)
    (b : Band V) (fr : List ((V × V) × PerMode V)) (hd : b.detects = true) (hb : P b) :
    P (detect cg fs w draws b fr).2.2 := by
  unfold detect
  split
  · exact detectHq_keeps h cg fs fr draws b hd hb
  · unfold detectNormal
    split
    · exact hb
    · obtain ⟨d, p⟩ := detectTicks_keeps h fr b hd hb
      exact h.update cg fs fr.length true (nextDraw draws) _ _ d p

theorem bandRun_keeps {w : Nat} {P : Band V → Prop} (h : Band.PathKeeps C w P) (es : Structure) (fs : Nat) (slot : Slot) :
    ∀ (xs : List V) (ts : List V) (b : Band V), P b → P (bandRun es fs slot b ts xs).2
  | [], _, _, hb => hb
  | x :: xs, ts, b, hb => bandRun_keeps h es fs slot xs ts.tail _ (h.filter es slot x _ (h.sections fs _ b hb))

theorem laneRun_keeps {w : Nat} {P : Band V → Prop} (h : Band.PathKeeps C w P) (es : Structure) (fs : Nat) (m : Stereo) (slot : Slot)
    (ts : List (List V)) (bands : Vector (Band V) Config.numBands) (xs : List V) (j : Nat) (hj : j < Config.numBands)
    (hb : P bands[j]) : P (laneRun es fs m slot ts bands xs).2[j] := by
  have series : P (laneSeries es fs m slot ts bands xs).2[j] := by
    unfold laneSeries
    obtain ⟨a, e⟩ := accV_get (fun i v b => if b.member m then bandRun es fs slot b (ts.getD i []) v else (v, b)) xs bands j hj
    rw [e]
    split
    · exact bandRun_keeps h es fs slot _ _ _ hb
    · exact hb
  have parallel : P (laneParallel es fs m slot ts bands xs).2[j] := by
    unfold laneParallel
    obtain ⟨a, e⟩ := accV_get (fun i acc b => if b.member m then
      ((acc.zipWith (· + ·) ((bandRun es fs slot b (ts.getD i []) xs).1.zipWith (· - ·) xs)),
        (bandRun es fs slot b (ts.getD i []) xs).2) else (acc, b)) xs bands j hj
    refine Eq.mpr (congrArg P e) ?_
    split
    · exact bandRun_keeps h es fs slot _ _ _ hb
    · exact hb
  unfold laneRun
  split
  · exact hb
  · exact parallel
  · exact series

theorem detectStage_keeps {P : Band V → Prop} {s : State V} (h : Band.PathKeeps C s.w P) (fr : List (Frame V)) (j : Nat)
    (hj : j < Config.numBands) (hb : P s.bands[j]) : P (detectStage s fr).2.bands[j] := by
  unfold detectStage detectAll
  dsimp only
  obtain ⟨a, e⟩ := accV_get (fun _ (a : List (List V) × List Bool) (b : Band V) => if b.detects then
      ((a.1 ++ [(detect s.cg s.fs s.w a.2 b (baselineRun s.w s.base (sidePairs fr)).1).1],
        (detect s.cg s.fs s.w a.2 b (baselineRun s.w s.base (sidePairs fr)).1).2.1),
        (detect s.cg s.fs s.w a.2 b (baselineRun s.w s.base (sidePairs fr)).1).2.2)
      else ((a.1 ++ [[]], a.2), b)) ([], s.io.publish) s.bands j hj
  refine Eq.mpr (congrArg P e) ?_
  split
  · rename_i hd
    exact detect_keeps h s.cg s.fs _ _ _ hd hb
  · exact hb

theorem slotStage_keeps {w : Nat} {P : Band V → Prop} (h : Band.PathKeeps C w P) (mode : Mode) (ts : List (List V)) (g : Group)
    (k : Slot) (s : State V) (xs : List V) (j : Nat) (hj : j < Config.numBands) (hb : P s.bands[j]) :
    P (slotStage mode ts g k s xs).2.bands[j] := by
  unfold slotStage
  dsimp only
  split
  · exact laneRun_keeps h _ _ _ _ _ _ _ j hj hb
  · exact hb

theorem groupStage_keeps {w : Nat} {P : Band V → Prop} (h : Band.PathKeeps C w P) (mode : Mode) (ts : List (List V)) (g : Group)
    (s : State V) (x : Pair V) (j : Nat) (hj : j < Config.numBands) (hb : P s.bands[j]) :
    P (groupStage mode ts g s x).2.bands[j] := by
  unfold groupStage
  split
  · exact slotStage_keeps h mode ts g .s1 _ _ j hj (slotStage_keeps h mode ts g .s0 s _ j hj hb)
  · exact hb

@[simp] theorem soloStage_bands (mode : Mode) (s : State V) (x : Pair V) : (soloStage mode s x).2.bands = s.bands := by
  unfold soloStage; split <;> rfl

@[simp] theorem postStage_bands (mode : Mode) (s : State V) (x : Pair V) : (postStage mode s x).2.bands = s.bands := by
  unfold postStage
  split
  · dsimp only; split <;> rfl
  · rfl

/-- What the signal path's operations on a band keep, a sub-block keeps of every band. -/
theorem subblock_keeps {P : Band V → Prop} {s : State V} (h : Band.PathKeeps C s.w P) (fr : List (Frame V)) (j : Nat)
    (hj : j < Config.numBands) (hb : P s.bands[j]) : P (subblock s fr).2.bands[j] := by
  unfold subblock mainStage
  simp only [postStage_bands]
  exact groupStage_keeps h _ _ _ _ _ j hj <| groupStage_keeps h _ _ _ _ _ j hj <| groupStage_keeps h _ _ _ _ _ j hj <| by
    simpa using detectStage_keeps h fr j hj hb

/-- What the signal path's operations on a band keep, PROCESS's frames keep of every band. -/
theorem processFrames_keeps {w : Nat} {P : Band V → Prop} (h : Band.PathKeeps C w P) (s : State V) (fr : List (Frame V)) (hw : s.w = w)
    (hb : ∀ j (hj : j < Config.numBands), P s.bands[j]) :
    ∀ j (hj : j < Config.numBands), P (processFrames s fr).bands[j] := by
  have key : State.PathKeeps C fun s => s.w = w ∧ ∀ j (hj : j < Config.numBands), P s.bands[j] := by
    constructor
    · rintro s fr ⟨rfl, hp⟩
      exact ⟨(subblock_signal s fr).frame.2.2.2.2.2.2.2.2.2.2.2.2.1, fun j hj => subblock_keeps h fr j hj (hp j hj)⟩
    · rintro s f ⟨rfl, hp⟩
      exact ⟨rfl, hp⟩
    · rintro s f ⟨rfl, hp⟩
      refine ⟨(fifoPush_signal s f).frame.2.2.2.2.2.2.2.2.2.2.2.2.1, fun j hj => ?_⟩
      unfold fifoPush
      dsimp only
      split
      · exact subblock_keeps (s := { s with fifo := { s.fifo with inp := s.fifo.inp.set s.fifo.pos f } }) h _ j hj (hp j hj)
      · exact hp j hj
    · rintro s out ⟨rfl, hp⟩
      exact ⟨rfl, hp⟩
  exact (key.processFrames s fr ⟨hw, hb⟩).2

end Sys2Proof.Machine
end

