-- ==== Sys2Proof/Laws/Commit.lean ====
section
/-! SUPPORT. The commit: what it can do, said once, and how a property of a band is carried through it, through PREPARE and
through one step. -/

namespace Sys2Proof.Machine

set_option linter.unusedSectionVars false

variable {V : Type} [Zero V] [One V] [NatCast V] [Add V] [Sub V] [Neg V] [Mul V] [Div V]
  [LT V] [LE V] [BEq V] [Min V] [Max V] [DecidableLT V] [DecidableLE V] {C : Config V}

/-! ### Cases and frames -/

/-- The structural part of a commit is one class's step, or nothing. -/
theorem State.commitStructural_cases (s : State V) :
    s.pendS = true ∧ s.commitStructural = s.commitS ∨
    s.pendS = false ∧ s.pendG = true ∧ s.commitStructural = s.commitG ∨
    s.pendS = false ∧ s.pendG = false ∧ s.pendB = true ∧ s.commitStructural = s.commitB ∨
    s.pendS = false ∧ s.pendG = false ∧ s.pendB = false ∧ s.commitStructural = s := by
  unfold State.commitStructural
  cases s.pendS <;> cases s.pendG <;> cases s.pendB <;> simp

/-- A commit does nothing where no flag is set, and else the structural step, the bands' steps, the global step where GDIRTY
is set, RECOMPUTE and LATENCY, in that order. -/
theorem State.commit_cases (s : State V) :
    s.anyFlag = false ∧ s.commit = s ∨
    s.anyFlag = true ∧ s.gdirty = true ∧ s.commit = s.commitStructural.commitBands.commitGlobal.recompute.updateLatency ∨
    s.anyFlag = true ∧ s.gdirty = false ∧ s.commit = s.commitStructural.commitBands.recompute.updateLatency := by
  unfold State.commit
  cases s.anyFlag <;> cases s.gdirty <;> simp

/-- A property of the state that each part of a commit keeps, the commit keeps. -/
theorem State.commit_keeps (P : State V → Prop) (hS : ∀ s, P s → P s.commitS) (hG : ∀ s, P s → P s.commitG)
    (hB : ∀ s, P s → P s.commitB) (hN : ∀ s, P s → P s.commitBands) (hg : ∀ s, P s → P s.commitGlobal)
    (hr : ∀ s, P s → P s.recompute) (hu : ∀ s, P s → P s.updateLatency) (s : State V) (h : P s) : P s.commit := by
  have h1 : P s.commitStructural := by
    rcases s.commitStructural_cases with ⟨_, e⟩ | ⟨_, _, e⟩ | ⟨_, _, _, e⟩ | ⟨_, _, _, e⟩ <;> rw [e]
    · exact hS s h
    · exact hG s h
    · exact hB s h
    · exact h
  rcases s.commit_cases with ⟨_, e⟩ | ⟨_, _, e⟩ | ⟨_, _, e⟩ <;> rw [e]
  · exact h
  · exact hu _ (hr _ (hg _ (hN _ h1)))
  · exact hu _ (hr _ (hN _ h1))

/-- What no commit writes: the staged globals, the preparation state and every port but the events. -/
theorem State.commit_frame (s : State V) :
    s.commit.pg = s.pg ∧ s.commit.prepared = s.prepared ∧ s.commit.fs = s.fs ∧ s.commit.maxblock = s.maxblock ∧
    s.commit.sublen = s.sublen ∧ s.commit.io.cmds = s.io.cmds ∧ s.commit.io.audioIn = s.io.audioIn ∧
    s.commit.io.audioOut = s.io.audioOut ∧ s.commit.io.respCtrl = s.io.respCtrl ∧
    s.commit.io.respAudio = s.io.respAudio ∧ s.commit.io.publish = s.io.publish ∧ s.commit.io.cur = s.io.cur := by
  refine s.commit_keeps (fun t => t.pg = s.pg ∧ t.prepared = s.prepared ∧ t.fs = s.fs ∧ t.maxblock = s.maxblock ∧
    t.sublen = s.sublen ∧ t.io.cmds = s.io.cmds ∧ t.io.audioIn = s.io.audioIn ∧
    t.io.audioOut = s.io.audioOut ∧ t.io.respCtrl = s.io.respCtrl ∧
    t.io.respAudio = s.io.respAudio ∧ t.io.publish = s.io.publish ∧ t.io.cur = s.io.cur)
    ?_ ?_ ?_ ?_ ?_ ?_ ?_ ⟨rfl, rfl, rfl, rfl, rfl, rfl, rfl, rfl, rfl, rfl, rfl, rfl⟩
  all_goals intro t ht
  · simpa using ht
  · simpa using ht
  · simpa using ht
  · simpa using ht
  · simpa using ht
  · simpa using ht
  · unfold State.updateLatency
    split <;> exact ht

/-- The flags after a commit: every class-N flag is clear, and of the structural flags the first set one, in the order S, G,
B, is clear. -/
theorem State.commit_flags (s : State V) :
    s.commit.gdirty = false ∧ s.commit.pendS = false ∧ s.commit.pendG = (s.pendG && s.pendS) ∧
    s.commit.pendB = (s.pendB && (s.pendS || s.pendG)) := by
  rcases s.commit_cases with ⟨h, e⟩ | ⟨_, hg, e⟩ | ⟨_, hg, e⟩ <;> rw [e]
  · simp only [State.anyFlag, Bool.or_eq_false_iff] at h
    simp [h.1.1.1.1, h.1.1.1.2, h.1.1.2, h.1.2]
  all_goals
    rcases s.commitStructural_cases with ⟨a, f⟩ | ⟨a, b, f⟩ | ⟨a, b, c, f⟩ | ⟨a, b, c, f⟩ <;> rw [f] <;> simp [*]

/-! ### Carrying a property of a band -/

/-- A property of a band that the parts of a commit keep. The last two are what RECOMPUTE does to a band. -/
structure Band.CommitKeeps (C : Config V) (P : Band V → Prop) : Prop where
  zeroFilter : ∀ b, P b → P b.zeroFilter
  commitG : ∀ w b, P b → P (b.commitG w)
  commitB : ∀ b, P b → P b.commitB
  commitN : ∀ w b, b.dirty = true → P b → P (b.commitN w)
  resize : ∀ w b, P b → P { b with det := { b.det with rms := Tracker.zero w } }
  recompute : ∀ fs b, P b → P (b.recompute fs)
  freeze : ∀ b, P b → P b.freeze

theorem recomputeBands_keeps {P : Band V → Prop} (hr : ∀ fs b, P b → P (b.recompute fs)) (hf : ∀ b, P b → P b.freeze)
    (es : Structure) (fs : Nat) (bands : Vector (Band V) Config.numBands)
    (h : ∀ j (hj : j < Config.numBands), P bands[j]) : ∀ j (hj : j < Config.numBands), P (recomputeBands es fs bands)[j] := by
  intro j hj
  unfold recomputeBands
  dsimp only
  split
  · simpa using hf _ (hr fs _ (h j hj))
  · simpa using hr fs _ (h j hj)

/-- What the parts of a commit keep of a band, the commit keeps of every band. -/
theorem State.commit_keepsBands {P : Band V → Prop} (h : Band.CommitKeeps C P) (s : State V)
    (hb : ∀ j (hj : j < Config.numBands), P s.bands[j]) : ∀ j (hj : j < Config.numBands), P s.commit.bands[j] := by
  refine s.commit_keeps (fun t => ∀ j (hj : j < Config.numBands), P t.bands[j]) ?_ ?_ ?_ ?_ ?_ ?_ ?_ hb
  · intro t ht j hj
    simpa using h.zeroFilter _ (ht j hj)
  · intro t ht j hj
    simpa using h.commitG _ _ (ht j hj)
  · intro t ht j hj
    simpa using h.commitB _ (ht j hj)
  · intro t ht j hj
    simp only [State.commitBands_bands, mapV_get]
    split
    · rename_i hd
      exact h.commitN _ _ hd (ht j hj)
    · exact ht j hj
  · intro t ht j hj
    unfold State.commitGlobal
    dsimp only
    split
    · exact ht j hj
    · simpa [State.resizeTrackers] using h.resize _ _ (ht j hj)
  · intro t ht j hj
    simpa using recomputeBands_keeps h.recompute h.freeze _ _ _ ht j hj
  · intro t ht j hj
    simpa using ht j hj

/-- What PREPARE's parts keep of a band, PREPARE keeps of every band. -/
theorem State.prepareWith_keepsBands {P : Band V → Prop} (s : State V) (m f : Nat)
    (hp : ∀ w j (hj : j < Config.numBands), P (s.bands[j].prepare w)) (hr : ∀ fs b, P b → P (b.recompute fs))
    (hf : ∀ b, P b → P b.freeze) (hrun : ∀ b, P b → P b.runBase) :
    ∀ j (hj : j < Config.numBands), P (s.prepareWith m f).bands[j] := by
  intro j hj
  simp only [State.prepareWith, State.updateLatency_bands, mapV_get, State.recompute_bands]
  refine hrun _ (recomputeBands_keeps hr hf _ _ _ ?_ j hj)
  intro k hk
  simpa using hp _ k hk

/-! ### One PROCESS, one step -/

/-- PROCESS in a prepared block answers the frames' state after the commit, or refuses. -/
theorem execProcess_prepared {s t : State V} {n : Nat} (hp : s.prepared = true) (h : execProcess n s = .next t) :
    ∃ fr, framesOf s.commit.cg.scPresent (s.inputWords n) = some fr ∧ t = processFrames (s.consume n).commit fr := by
  unfold execProcess at h
  rw [if_pos hp] at h
  split at h
  · rename_i fr e
    exact ⟨fr, e, by injection h with h; exact h.symm⟩
  · cases h

/-- PROCESS before PREPARE answers the main pairs, or refuses. -/
theorem execProcess_unprepared {s t : State V} {n : Nat} (hp : s.prepared = false) (h : execProcess n s = .next t) :
    ∃ fr, framesOf false (s.inputWords n) = some fr ∧ t = (s.consume n).emit (fr.map fun f => (f.mL, f.mR)) := by
  unfold execProcess at h
  rw [if_neg (by simp [hp])] at h
  split at h
  · rename_i fr e
    exact ⟨fr, e, by injection h with h; exact h.symm⟩
  · cases h

/-- What one command can do: nothing but a response, a register write, RESET, PREPARE or PROCESS. -/
theorem execIn_cases {i : Instr} {s t : State V} (h : execIn C i s = .next t) :
    t = s ∨ (∃ r, t = s.respond r) ∨ (∃ r b d, t = s.writeBand r b d) ∨ (∃ r d, t = s.writeGlobal r d) ∨ t = s.resetCmd ∨
    (∃ m f, f ≠ 0 ∧ t = s.prepareWith m f) ∨ (∃ n, execProcess n s = .next t) := by
  cases i
  case process n => exact .inr (.inr (.inr (.inr (.inr (.inr ⟨n, h⟩)))))
  case prepare m f =>
    simp only [execIn, execPrepare] at h
    injection h with h
    by_cases hf : f = 0
    · exact .inl (by simpa [hf] using h.symm)
    · exact .inr (.inr (.inr (.inr (.inr (.inl ⟨m, f, hf, by simpa [hf] using h.symm⟩)))))
  case nop => exact .inl (by injection h with h; exact h.symm)
  case reset => exact .inr (.inr (.inr (.inr (.inl (by injection h with h; exact h.symm)))))
  all_goals first
    | exact .inr (.inl ⟨_, by injection h with h; exact h.symm⟩)
    | exact .inr (.inr (.inl ⟨_, _, _, by injection h with h; exact h.symm⟩))
    | exact .inr (.inr (.inr (.inl ⟨_, _, by injection h with h; exact h.symm⟩)))

/-- What one step can do: it idles, or takes the next command, whose word is reserved or decodes to a command that is
executed. -/
theorem stepIn_cases {s t : State V} (h : stepIn C s = .next t) :
    s.io.cmds = [] ∧ t = s ∨
    ∃ c rest, s.io.cmds = c :: rest ∧
      ((∃ r, decode c.word = .reserved r ∧ t = (s.takeCmd c rest).reserved c.word) ∨
        ∃ i, decode c.word = .instr i ∧ execIn C i (s.takeCmd c rest) = .next t) := by
  unfold stepIn at h
  split at h
  · rename_i e
    exact .inl ⟨e, by injection h with h; exact h.symm⟩
  · rename_i c rest e
    refine .inr ⟨c, rest, e, ?_⟩
    split at h
    · rename_i i ei
      exact .inr ⟨i, ei, h⟩
    · rename_i r er
      exact .inl ⟨r, er, by injection h with h; exact h.symm⟩

/-- A property of the state that survives every kind of command survives every step. -/
theorem stepIn_keeps (P : State V → Prop) (ports : ∀ s io, P s → P { s with io := io })
    (wb : ∀ s r b d, P s → P (s.writeBand r b d)) (wg : ∀ s r d, P s → P (s.writeGlobal r d))
    (reset : ∀ io, P { State.resetIn C with io := io })
    (prep : ∀ s m f, f ≠ 0 → P s → P (s.prepareWith m f)) (commit : ∀ s, P s → P s.commit)
    (frames : ∀ s fr, s.prepared = true → P s → P (processFrames s fr))
    {s t : State V} (h : stepIn C s = .next t) (hs : P s) : P t := by
  have resp : ∀ s r, P s → P (s.respond r) := by
    intro s r h
    unfold State.respond
    split <;> exact ports _ _ h
  rcases stepIn_cases h with ⟨_, rfl⟩ | ⟨c, rest, _, ⟨r, _, rfl⟩ | ⟨i, _, hi⟩⟩
  · exact hs
  · have h1 : P (s.takeCmd c rest) := ports _ _ hs
    rcases (s.takeCmd c rest).reserved_cases c.word with e | e <;> rw [e]
    · exact h1
    · exact resp _ _ h1
  · have h1 : P (s.takeCmd c rest) := ports _ _ hs
    rcases execIn_cases hi with rfl | ⟨r, rfl⟩ | ⟨r, b, d, rfl⟩ | ⟨r, d, rfl⟩ | rfl | ⟨m, f, hf, rfl⟩ | ⟨n, hn⟩
    · exact h1
    · exact resp _ _ h1
    · exact wb _ _ _ _ h1
    · exact wg _ _ _ h1
    · exact reset _
    · exact prep _ _ _ hf h1
    · cases hp : (s.takeCmd c rest).prepared with
      | true =>
        obtain ⟨fr, _, rfl⟩ := execProcess_prepared hp hn
        refine frames _ _ ?_ (commit _ (ports _ _ h1))
        rw [(State.commit_frame _).2.1]
        exact hp
      | false =>
        obtain ⟨fr, _, rfl⟩ := execProcess_unprepared hp hn
        exact ports _ _ (ports _ _ h1)

/-- A property of a band that every operation on a band keeps, every step keeps of every band. -/
theorem stepIn_keepsBands {P : Band V → Prop} (hreset : P Band.reset)
    (wb : ∀ (b : Band V) (r : BandReg) (d : DataWord) (x : BandRegs V), r.store d b.staged = some x → P b →
      P { b with staged := x, dirty := b.dirty || r.cls == .n })
    (hc : Band.CommitKeeps C P) (hp : ∀ w b, P b → P (b.prepare w)) (hrun : ∀ b, P b → P b.runBase)
    (path : ∀ w, Band.PathKeeps C w P) {s t : State V} (h : stepIn C s = .next t) (hs : ∀ b : Fin 16, P s.bands[b]) :
    ∀ b : Fin 16, P t.bands[b] := by
  have key := stepIn_keeps (fun s => ∀ j (hj : j < Config.numBands), P s.bands[j]) (fun s io h => h) ?_ ?_ ?_ ?_ ?_ ?_ h
    (fun j hj => hs ⟨j, hj⟩)
  · exact fun b => key b b.isLt
  · intro s r b d h j hj
    rcases s.writeBand_cases r b d with e | ⟨hb, x, hx, e⟩ <;> rw [e]
    · exact h j hj
    · have h1 := wb s.bands[b] r d x hx (h b hb)
      cases hcls : r.cls <;>
        simp only [hcls, beq_self_eq_true, Bool.or_true, Bool.or_false,
          show (RegClass.s == RegClass.n) = false from rfl, show (RegClass.g == RegClass.n) = false from rfl,
          show (RegClass.b == RegClass.n) = false from rfl] at h1
      all_goals
        simp only [State.flagBand, Vector.getElem_set]
        split
        · first | exact h1 | simpa using h1
        · exact h j hj
  · intro s r d h j hj
    simpa using h j hj
  · intro io j hj
    simpa [State.resetIn] using hreset
  · intro s m f _ h
    exact s.prepareWith_keepsBands m f (fun w j hj => hp w _ (h j hj)) hc.recompute hc.freeze hrun
  · intro s h
    exact State.commit_keepsBands hc s h
  · intro s fr _ h
    exact processFrames_keeps (path s.w) s fr rfl h

/-! ### The machine `step` runs -/

/-- `exec` is the meaning of the commands in the standard configuration. -/
theorem exec_eq_execIn (i : Instr) (s : State) : exec i s = execIn Config.standard i s := by cases i <;> rfl

/-- `step` is one step in the standard configuration. -/
theorem step_eq_stepIn (s : State) : step s = stepIn Config.standard s := by
  unfold step stepIn
  cases s.io.cmds with
  | nil => rfl
  | cons c rest =>
    simp only [execDecoded]
    cases decode c.word with
    | instr i => exact exec_eq_execIn ..
    | reserved _ => rfl

/-- What one command can do: nothing but a response, a register write, RESET, PREPARE or PROCESS. -/
theorem exec_cases {i : Instr} {s t : State} (h : exec i s = .next t) :
    t = s ∨ (∃ r, t = s.respond r) ∨ (∃ r b d, t = s.writeBand r b d) ∨ (∃ r d, t = s.writeGlobal r d) ∨ t = s.resetCmd ∨
    (∃ m f, f ≠ 0 ∧ t = s.prepareWith m f) ∨ (∃ n, execProcess n s = .next t) :=
  execIn_cases (exec_eq_execIn i s ▸ h)

/-- What one step can do: it idles, or takes the next command, whose word is reserved or decodes to a command that is
executed. -/
theorem step_cases {s t : State} (h : step s = .next t) :
    s.io.cmds = [] ∧ t = s ∨
    ∃ c rest, s.io.cmds = c :: rest ∧
      ((∃ r, decode c.word = .reserved r ∧ t = (s.takeCmd c rest).reserved c.word) ∨
        ∃ i, decode c.word = .instr i ∧ exec i (s.takeCmd c rest) = .next t) := by
  simp only [exec_eq_execIn]
  exact stepIn_cases (step_eq_stepIn s ▸ h)

end Sys2Proof.Machine
end

