-- ==== Sys2Proof/Laws/Encoding.lean ====
section
/-! SUPPORT. The packed words read back field by field: what the decoder answers on each command format. -/

namespace Sys2Proof

/-- The word of a format R command as a number. -/
theorem packR_toNat {op band reg data : Nat} (ho : op < 2 ^ 8) (hb : band < 2 ^ 8) (hr : reg < 2 ^ 8) (hd : data < 2 ^ 32) :
    (packR op band reg data).toNat = op * 2 ^ 56 + band * 2 ^ 48 + reg * 2 ^ 40 + data := by
  simp only [packR, BitVec.toNat_ofNat]
  omega

/-- The word of a format P or A command as a number. -/
theorem packP_toNat {op hi lo : Nat} (ho : op < 2 ^ 8) (hh : hi < 2 ^ 24) (hl : lo < 2 ^ 32) :
    (packP op hi lo).toNat = op * 2 ^ 56 + hi * 2 ^ 32 + lo := by
  simp only [packP, BitVec.toNat_ofNat]
  omega

/-- The fields of a format R command (30_encoding.md R86). -/
theorem packR_fields {op band reg data : Nat} (ho : op < 2 ^ 8) (hb : band < 2 ^ 8) (hr : reg < 2 ^ 8) (hd : data < 2 ^ 32) :
    bitField (packR op band reg data).toNat 56 8 = op ∧ bitField (packR op band reg data).toNat 48 8 = band ∧
    bitField (packR op band reg data).toNat 40 8 = reg ∧ bitField (packR op band reg data).toNat 32 8 = 0 ∧
    bitField (packR op band reg data).toNat 0 32 = data := by
  rw [packR_toNat ho hb hr hd]
  simp only [bitField]
  refine ⟨?_, ?_, ?_, ?_, ?_⟩ <;> omega

/-- The fields of a format P or A command (30_encoding.md R87, R88). -/
theorem packP_fields {op hi lo : Nat} (ho : op < 2 ^ 8) (hh : hi < 2 ^ 24) (hl : lo < 2 ^ 32) :
    bitField (packP op hi lo).toNat 56 8 = op ∧ bitField (packP op hi lo).toNat 32 24 = hi ∧
    bitField (packP op hi lo).toNat 0 32 = lo := by
  rw [packP_toNat ho hh hl]
  simp only [bitField]
  refine ⟨?_, ?_, ?_⟩ <;> omega

/-- A WRB word decodes by its register number. -/
theorem decode_wrb {band reg : Nat} (data : DataWord) (hb : band < 2 ^ 8) (hr : reg < 2 ^ 8) :
    decode (packR 0x10 band reg data.toNat) = .ofOption (decodeWrb reg band data) := by
  obtain ⟨h1, h2, h3, h4, h5⟩ := packR_fields (op := 0x10) (by decide) hb hr data.isLt
  simp [decode, h1, h2, h3, h4, h5, zext32]

/-- An RDB word decodes by its register number. -/
theorem decode_rdb {band reg : Nat} (hb : band < 2 ^ 8) (hr : reg < 2 ^ 8) :
    decode (packR 0x11 band reg 0) = .ofOption (decodeRdb reg band) := by
  obtain ⟨h1, h2, h3, h4, h5⟩ := packR_fields (op := 0x11) (data := 0) (by decide) hb hr (by decide)
  simp [decode, h1, h2, h3, h4, h5]

/-- A WRG word decodes by its register number. -/
theorem decode_wrg {reg : Nat} (data : DataWord) (hr : reg < 2 ^ 8) :
    decode (packR 0x12 0 reg data.toNat) = .ofOption (decodeWrg reg data) := by
  obtain ⟨h1, h2, h3, h4, h5⟩ := packR_fields (op := 0x12) (band := 0) (by decide) (by decide) hr data.isLt
  simp [decode, h1, h2, h3, h4, h5, zext32]

/-- An RDG word decodes by its register number. -/
theorem decode_rdg {reg : Nat} (hr : reg < 2 ^ 8) : decode (packR 0x13 0 reg 0) = .ofOption (decodeRdg reg) := by
  obtain ⟨h1, h2, h3, h4, h5⟩ := packR_fields (op := 0x13) (band := 0) (data := 0) (by decide) (by decide) hr (by decide)
  simp [decode, h1, h2, h3, h4, h5]

/-- A PREPARE word decodes to its two operands. -/
theorem decode_prepare {maxblock fs : Nat} (hm : maxblock < 2 ^ 24) (hf : fs < 2 ^ 32) :
    decode (packP 0x02 maxblock fs) = .instr (.prepare maxblock fs) := by
  obtain ⟨h1, h2, h3⟩ := packP_fields (op := 0x02) (by decide) hm hf
  simp [decode, h1, h2, h3]

/-- A PROCESS word decodes to its frame count. -/
theorem decode_process {n : Nat} (hn : n < 2 ^ 32) : decode (packP 0x03 0 n) = .instr (.process n) := by
  obtain ⟨h1, h2, h3⟩ := packP_fields (op := 0x03) (hi := 0) (by decide) (by decide) hn
  simp [decode, h1, h2, h3]

end Sys2Proof
end

