-- ==== Sys2Proof/Laws/PerInstr.lean ====
section
/-! SUPPORT. Decoding the encoding of a well-formed command gives the command back: one lemma for each constructor. -/

namespace Sys2Proof.Laws.DecodeEncode

/-- A well-formed command is what its word decodes to (30_encoding.md R102, R104). -/
def Statement (i : Instr) : Prop := i.wellFormed = true → decode (encode i) = .instr i

theorem nop : Statement .nop := fun _ => by decide
theorem reset : Statement .reset := fun _ => by decide
theorem prepare (maxblock fs : Nat) : Statement (.prepare maxblock fs) := fun h => by
  simp only [Instr.wellFormed, Bool.and_eq_true, decide_eq_true_eq] at h
  exact decode_prepare h.1 h.2
theorem process (n : Nat) : Statement (.process n) := fun h => decode_process (of_decide_eq_true h)
theorem wrbActive (band : Nat) (data : DataWord) : Statement (.wrbActive band data) :=
  fun h => decode_wrb data (of_decide_eq_true h) (by decide)
theorem wrbBypass (band : Nat) (data : DataWord) : Statement (.wrbBypass band data) :=
  fun h => decode_wrb data (of_decide_eq_true h) (by decide)
theorem wrbFtype (band : Nat) (data : DataWord) : Statement (.wrbFtype band data) :=
  fun h => decode_wrb data (of_decide_eq_true h) (by decide)
theorem wrbOrder (band : Nat) (data : DataWord) : Statement (.wrbOrder band data) :=
  fun h => decode_wrb data (of_decide_eq_true h) (by decide)
theorem wrbFreq (band : Nat) (data : DataWord) : Statement (.wrbFreq band data) :=
  fun h => decode_wrb data (of_decide_eq_true h) (by decide)
theorem wrbGain (band : Nat) (data : DataWord) : Statement (.wrbGain band data) :=
  fun h => decode_wrb data (of_decide_eq_true h) (by decide)
theorem wrbQ (band : Nat) (data : DataWord) : Statement (.wrbQ band data) :=
  fun h => decode_wrb data (of_decide_eq_true h) (by decide)
theorem wrbStereo (band : Nat) (data : DataWord) : Statement (.wrbStereo band data) :=
  fun h => decode_wrb data (of_decide_eq_true h) (by decide)
theorem wrbDynOn (band : Nat) (data : DataWord) : Statement (.wrbDynOn band data) :=
  fun h => decode_wrb data (of_decide_eq_true h) (by decide)
theorem wrbTgain (band : Nat) (data : DataWord) : Statement (.wrbTgain band data) :=
  fun h => decode_wrb data (of_decide_eq_true h) (by decide)
theorem wrbTq (band : Nat) (data : DataWord) : Statement (.wrbTq band data) :=
  fun h => decode_wrb data (of_decide_eq_true h) (by decide)
theorem wrbThresh (band : Nat) (data : DataWord) : Statement (.wrbThresh band data) :=
  fun h => decode_wrb data (of_decide_eq_true h) (by decide)
theorem wrbKnee (band : Nat) (data : DataWord) : Statement (.wrbKnee band data) :=
  fun h => decode_wrb data (of_decide_eq_true h) (by decide)
theorem wrbAttack (band : Nat) (data : DataWord) : Statement (.wrbAttack band data) :=
  fun h => decode_wrb data (of_decide_eq_true h) (by decide)
theorem wrbRelease (band : Nat) (data : DataWord) : Statement (.wrbRelease band data) :=
  fun h => decode_wrb data (of_decide_eq_true h) (by decide)
theorem wrbRelThresh (band : Nat) (data : DataWord) : Statement (.wrbRelThresh band data) :=
  fun h => decode_wrb data (of_decide_eq_true h) (by decide)
theorem wrbSideFreq (band : Nat) (data : DataWord) : Statement (.wrbSideFreq band data) :=
  fun h => decode_wrb data (of_decide_eq_true h) (by decide)
theorem wrbSideQ (band : Nat) (data : DataWord) : Statement (.wrbSideQ band data) :=
  fun h => decode_wrb data (of_decide_eq_true h) (by decide)
theorem wrbSideSwap (band : Nat) (data : DataWord) : Statement (.wrbSideSwap band data) :=
  fun h => decode_wrb data (of_decide_eq_true h) (by decide)
theorem wrbLearn (band : Nat) (data : DataWord) : Statement (.wrbLearn band data) :=
  fun h => decode_wrb data (of_decide_eq_true h) (by decide)
theorem rdbActive (band : Nat) : Statement (.rdbActive band) := fun h => decode_rdb (of_decide_eq_true h) (by decide)
theorem rdbBypass (band : Nat) : Statement (.rdbBypass band) := fun h => decode_rdb (of_decide_eq_true h) (by decide)
theorem rdbFtype (band : Nat) : Statement (.rdbFtype band) := fun h => decode_rdb (of_decide_eq_true h) (by decide)
theorem rdbOrder (band : Nat) : Statement (.rdbOrder band) := fun h => decode_rdb (of_decide_eq_true h) (by decide)
theorem rdbFreq (band : Nat) : Statement (.rdbFreq band) := fun h => decode_rdb (of_decide_eq_true h) (by decide)
theorem rdbGain (band : Nat) : Statement (.rdbGain band) := fun h => decode_rdb (of_decide_eq_true h) (by decide)
theorem rdbQ (band : Nat) : Statement (.rdbQ band) := fun h => decode_rdb (of_decide_eq_true h) (by decide)
theorem rdbStereo (band : Nat) : Statement (.rdbStereo band) := fun h => decode_rdb (of_decide_eq_true h) (by decide)
theorem rdbDynOn (band : Nat) : Statement (.rdbDynOn band) := fun h => decode_rdb (of_decide_eq_true h) (by decide)
theorem rdbTgain (band : Nat) : Statement (.rdbTgain band) := fun h => decode_rdb (of_decide_eq_true h) (by decide)
theorem rdbTq (band : Nat) : Statement (.rdbTq band) := fun h => decode_rdb (of_decide_eq_true h) (by decide)
theorem rdbThresh (band : Nat) : Statement (.rdbThresh band) := fun h => decode_rdb (of_decide_eq_true h) (by decide)
theorem rdbKnee (band : Nat) : Statement (.rdbKnee band) := fun h => decode_rdb (of_decide_eq_true h) (by decide)
theorem rdbAttack (band : Nat) : Statement (.rdbAttack band) := fun h => decode_rdb (of_decide_eq_true h) (by decide)
theorem rdbRelease (band : Nat) : Statement (.rdbRelease band) := fun h => decode_rdb (of_decide_eq_true h) (by decide)
theorem rdbRelThresh (band : Nat) : Statement (.rdbRelThresh band) := fun h => decode_rdb (of_decide_eq_true h) (by decide)
theorem rdbSideFreq (band : Nat) : Statement (.rdbSideFreq band) := fun h => decode_rdb (of_decide_eq_true h) (by decide)
theorem rdbSideQ (band : Nat) : Statement (.rdbSideQ band) := fun h => decode_rdb (of_decide_eq_true h) (by decide)
theorem rdbSideSwap (band : Nat) : Statement (.rdbSideSwap band) := fun h => decode_rdb (of_decide_eq_true h) (by decide)
theorem rdbLearn (band : Nat) : Statement (.rdbLearn band) := fun h => decode_rdb (of_decide_eq_true h) (by decide)
theorem rdbCurT (band : Nat) : Statement (.rdbCurT band) := fun h => decode_rdb (of_decide_eq_true h) (by decide)
theorem rdbCurGain (band : Nat) : Statement (.rdbCurGain band) := fun h => decode_rdb (of_decide_eq_true h) (by decide)
theorem rdbCurQ (band : Nat) : Statement (.rdbCurQ band) := fun h => decode_rdb (of_decide_eq_true h) (by decide)
theorem rdbCurLevel (band : Nat) : Statement (.rdbCurLevel band) := fun h => decode_rdb (of_decide_eq_true h) (by decide)
theorem rdbHistP05 (band : Nat) : Statement (.rdbHistP05 band) := fun h => decode_rdb (of_decide_eq_true h) (by decide)
theorem rdbHistP50 (band : Nat) : Statement (.rdbHistP50 band) := fun h => decode_rdb (of_decide_eq_true h) (by decide)
theorem rdbHistP95 (band : Nat) : Statement (.rdbHistP95 band) := fun h => decode_rdb (of_decide_eq_true h) (by decide)
theorem rdbNsec (band : Nat) : Statement (.rdbNsec band) := fun h => decode_rdb (of_decide_eq_true h) (by decide)
theorem wrgStructure (data : DataWord) : Statement (.wrgStructure data) := fun _ => decode_wrg data (by decide)
theorem wrgZeroLat (data : DataWord) : Statement (.wrgZeroLat data) := fun _ => decode_wrg data (by decide)
theorem wrgLookahead (data : DataWord) : Statement (.wrgLookahead data) := fun _ => decode_wrg data (by decide)
theorem wrgScPresent (data : DataWord) : Statement (.wrgScPresent data) := fun _ => decode_wrg data (by decide)
theorem wrgSolo (data : DataWord) : Statement (.wrgSolo data) := fun _ => decode_wrg data (by decide)
theorem wrgTrim (data : DataWord) : Statement (.wrgTrim data) := fun _ => decode_wrg data (by decide)
theorem wrgEffectOn (data : DataWord) : Statement (.wrgEffectOn data) := fun _ => decode_wrg data (by decide)
theorem wrgHq (data : DataWord) : Statement (.wrgHq data) := fun _ => decode_wrg data (by decide)
theorem wrgPhaseFlip (data : DataWord) : Statement (.wrgPhaseFlip data) := fun _ => decode_wrg data (by decide)
theorem wrgSgcOn (data : DataWord) : Statement (.wrgSgcOn data) := fun _ => decode_wrg data (by decide)
theorem wrgMeasure (data : DataWord) : Statement (.wrgMeasure data) := fun _ => decode_wrg data (by decide)
theorem wrgRmsMs (data : DataWord) : Statement (.wrgRmsMs data) := fun _ => decode_wrg data (by decide)
theorem wrgDecaySel (data : DataWord) : Statement (.wrgDecaySel data) := fun _ => decode_wrg data (by decide)
theorem rdgStructure : Statement .rdgStructure := fun _ => decode_rdg (by decide)
theorem rdgZeroLat : Statement .rdgZeroLat := fun _ => decode_rdg (by decide)
theorem rdgLookahead : Statement .rdgLookahead := fun _ => decode_rdg (by decide)
theorem rdgScPresent : Statement .rdgScPresent := fun _ => decode_rdg (by decide)
theorem rdgSolo : Statement .rdgSolo := fun _ => decode_rdg (by decide)
theorem rdgTrim : Statement .rdgTrim := fun _ => decode_rdg (by decide)
theorem rdgEffectOn : Statement .rdgEffectOn := fun _ => decode_rdg (by decide)
theorem rdgHq : Statement .rdgHq := fun _ => decode_rdg (by decide)
theorem rdgPhaseFlip : Statement .rdgPhaseFlip := fun _ => decode_rdg (by decide)
theorem rdgSgcOn : Statement .rdgSgcOn := fun _ => decode_rdg (by decide)
theorem rdgMeasure : Statement .rdgMeasure := fun _ => decode_rdg (by decide)
theorem rdgRmsMs : Statement .rdgRmsMs := fun _ => decode_rdg (by decide)
theorem rdgDecaySel : Statement .rdgDecaySel := fun _ => decode_rdg (by decide)
theorem rdgLatency : Statement .rdgLatency := fun _ => decode_rdg (by decide)
theorem rdgSrate : Statement .rdgSrate := fun _ => decode_rdg (by decide)
theorem rdgMaxblock : Statement .rdgMaxblock := fun _ => decode_rdg (by decide)
theorem rdgSublen : Statement .rdgSublen := fun _ => decode_rdg (by decide)
theorem rdgStatus : Statement .rdgStatus := fun _ => decode_rdg (by decide)
theorem rdgLatSeq : Statement .rdgLatSeq := fun _ => decode_rdg (by decide)
theorem rdgAgain : Statement .rdgAgain := fun _ => decode_rdg (by decide)
theorem rdgEffStruct : Statement .rdgEffStruct := fun _ => decode_rdg (by decide)

end Sys2Proof.Laws.DecodeEncode
end

