-- ==== Sys2Proof/Laws/Work.lean ====
section
/-! SUPPORT. The work of a commit (45_controller.md R364): the commit is the run of its steps, and how many there are. -/

namespace Sys2Proof.Machine

set_option linter.unusedSectionVars false

open Arith

variable {V : Type} [Zero V] [One V] [NatCast V] [Add V] [Sub V] [Neg V] [Mul V] [Div V]
  [LT V] [LE V] [BEq V] [Min V] [Max V] [DecidableLT V] [DecidableLE V] {C : Config V}

/-! ### Runs of steps -/

@[simp] theorem State.runSteps_nil (s : State V) : s.runSteps [] = s := rfl
@[simp] theorem State.runSteps_cons (s : State V) (k : CommitStep) (ks : List CommitStep) :
    s.runSteps (k :: ks) = (s.commitStep k).runSteps ks := rfl
@[simp] theorem State.runSteps_append (s : State V) (ks ls : List CommitStep) :
    s.runSteps (ks ++ ls) = (s.runSteps ks).runSteps ls := by
  simp [State.runSteps]

/-- The elements of `l` replaced by their images, one after another. -/
def setEach {α : Type} {n : Nat} (f : α → α) (l : List (Fin n)) (v : Vector α n) : Vector α n :=
  l.foldl (fun v (j : Fin n) => v.set j (f v[j])) v

theorem setEach_get {α : Type} {n : Nat} (f : α → α) (l : List (Fin n)) (hl : l.Nodup) (v : Vector α n) (i : Nat)
    (hi : i < n) : (setEach f l v)[i] = if (⟨i, hi⟩ : Fin n) ∈ l then f v[i] else v[i] := by
  induction l generalizing v with
  | nil => simp [setEach]
  | cons j l ih =>
    obtain ⟨hj, hl⟩ := List.nodup_cons.mp hl
    rw [show setEach f (j :: l) v = setEach f l (v.set j (f v[j])) from rfl, ih hl]
    by_cases e : j = ⟨i, hi⟩
    · subst e
      simp [hj]
    · have e' : (j : Nat) ≠ i := fun h => e (Fin.ext h)
      have e'' : (⟨i, hi⟩ : Fin n) ≠ j := fun h => e h.symm
      simp [Vector.getElem_set_ne, e', e'']

/-- Of the elements that meet a condition, all replaced. -/
theorem setEach_filter {α : Type} {n : Nat} (f : α → α) (p : Fin n → Bool) (q : α → Bool) (v : Vector α n)
    (h : ∀ j : Fin n, p j = q v[j]) :
    setEach f ((List.finRange n).filter p) v = mapV (fun x => if q x then f x else x) v := by
  apply Vector.ext
  intro i hi
  rw [setEach_get f _ ((List.nodup_finRange n).filter p), mapV_get]
  simp [h]

/-- All elements replaced. -/
theorem setEach_finRange {α : Type} {n : Nat} (f : α → α) (v : Vector α n) :
    setEach f (List.finRange n) v = mapV f v := by
  apply Vector.ext
  intro i hi
  rw [setEach_get f _ (List.nodup_finRange n), mapV_get]
  simp

/-- The class-N steps of bands, run. -/
theorem State.runSteps_bandN (s : State V) (l : List (Fin Config.numBands)) :
    s.runSteps (l.map .bandN) = { s with bands := setEach (fun b => b.commitN s.w) l s.bands } := by
  induction l generalizing s with
  | nil => rfl
  | cons j l ih =>
    rw [List.map_cons, State.runSteps_cons, ih]
    rfl

/-- The designs of bands, run. -/
theorem State.runSteps_design (s : State V) (l : List (Fin Config.numBands)) :
    s.runSteps (l.map .design) = { s with bands := setEach (fun b => b.recompute s.fs) l s.bands } := by
  induction l generalizing s with
  | nil => rfl
  | cons j l ih =>
    rw [List.map_cons, State.runSteps_cons, ih]
    rfl

/-! ### The commit is the run of its steps -/

/-- A structural step leaves every DIRTY flag as it is, and W and GDIRTY. -/
theorem State.commitStructural_frame (s : State V) :
    s.commitStructural.w = s.w ∧ s.commitStructural.gdirty = s.gdirty ∧
    ∀ i (hi : i < Config.numBands), s.commitStructural.bands[i].dirty = s.bands[i].dirty := by
  rcases s.commitStructural_cases with ⟨_, e⟩ | ⟨_, _, e⟩ | ⟨_, _, _, e⟩ | ⟨_, _, _, e⟩ <;> rw [e]
  · exact ⟨rfl, rfl, fun i hi => by simp [Band.zeroFilter]⟩
  · refine ⟨rfl, rfl, fun i hi => ?_⟩
    simp only [State.commitG_bands, mapV_get, Band.commitG]
    split <;> rfl
  · refine ⟨rfl, rfl, fun i hi => ?_⟩
    simp only [State.commitB_bands, mapV_get, Band.commitB]
    split <;> rfl
  · exact ⟨rfl, rfl, fun _ _ => rfl⟩

/-- The transfers of a commit are its structural step, the steps of the dirty bands and the global step. -/
theorem State.runSteps_transfer (s : State V) :
    s.runSteps s.transferSteps =
      if s.gdirty then s.commitStructural.commitBands.commitGlobal else s.commitStructural.commitBands := by
  obtain ⟨_, _, hd⟩ := s.commitStructural_frame (C := C)
  have h1 : s.runSteps (if s.pendS then [.classS] else if s.pendG then [.classG] else if s.pendB then [.classB] else []) =
      s.commitStructural := by
    unfold State.commitStructural
    split
    · rfl
    · split
      · rfl
      · split <;> rfl
  have h2 : s.commitStructural.runSteps (((List.finRange Config.numBands).filter fun j => s.bands[j].dirty).map .bandN) =
      s.commitStructural.commitBands := by
    rw [State.runSteps_bandN, setEach_filter _ _ (·.dirty) _ fun j => (hd j j.isLt).symm]
    rfl
  unfold State.transferSteps
  rw [State.runSteps_append, State.runSteps_append, h1, h2]
  split <;> rfl

/-- RECOMPUTE's designs, run, bring every band in line. -/
theorem State.runSteps_designs (s : State V) :
    s.runSteps ((List.finRange Config.numBands).map .design) = { s with bands := mapV (fun b => b.recompute s.fs) s.bands } := by
  rw [State.runSteps_design, setEach_finRange]

/-- The tap sets of a state, run, are those of every group in use. -/
theorem State.runSteps_tapSets (s : State V) :
    s.runSteps (s.tapSets.map fun p => .tapSet p.1 p.2) =
      { s with corr := if (effStruct s.cg).correcting then designCorr (effStruct s.cg) s.fs s.bands s.corr else s.corr } := by
  unfold State.tapSets
  split
  · have h0 : groupInUse s.bands .st = true := rfl
    cases h1 : groupInUse s.bands .lr <;> cases h2 : groupInUse s.bands .ms <;>
      simp [List.filter, h0, h1, h2, State.commitStep, State.designTapSet, designCorr, designGroup, PerGroup.get, PerGroup.set,
        PerSlot.get, PerSlot.set]
  · rfl

/-- RECOMPUTE leaves the committed registers of the bands. -/
theorem recomputeBands_comm (es : Structure) (fs : Nat) (bands : Vector (Band V) Config.numBands) (i : Nat)
    (hi : i < Config.numBands) : (recomputeBands es fs bands)[i].comm = bands[i].comm := by
  unfold recomputeBands
  dsimp only
  split
  · simp only [mapV_get, Band.freeze]
    split <;> rfl
  · simp [Band.recompute]

/-- RECOMPUTE is the run of its steps. -/
theorem State.runSteps_recompute (s : State V) : s.runSteps s.recomputeSteps = s.recompute := by
  have e : s.tapSets = (s.runSteps ((List.finRange Config.numBands).map .design ++ [.shared])).tapSets := by
    simp only [State.runSteps_append, State.runSteps_designs, State.runSteps_cons, State.runSteps_nil]
    have h : groupInUse (recomputeBands (effStruct s.cg) s.fs s.bands) = groupInUse s.bands :=
      funext (groupInUse_congr fun i hi => by simp only [recomputeBands_comm, and_self])
    unfold State.tapSets
    rw [← h]
    rfl
  unfold State.recomputeSteps
  rw [List.append_cons, State.runSteps_append, e, State.runSteps_tapSets, State.runSteps_append, State.runSteps_designs]
  rfl

/-- COMMIT is the run of its steps (R364). -/
theorem State.commit_eq_runSteps (s : State V) : s.commit = s.runSteps s.commitSteps := by
  unfold State.commitSteps State.commit
  split
  · simp only [State.runSteps_append, State.runSteps_recompute, State.runSteps_transfer]
    rfl
  · rfl

/-! ### The bounds -/

/-- A RECOMPUTE designs at most 6 tap sets, each once. -/
theorem State.tapSets_bounded (s : State V) : s.tapSets.length ≤ 6 ∧ s.tapSets.Nodup := by
  unfold State.tapSets
  split
  · have h0 : groupInUse s.bands .st = true := rfl
    cases h1 : groupInUse s.bands .lr <;> cases h2 : groupInUse s.bands .ms <;> simp [List.filter, h0, h1, h2]
  · simp

/-- What the transfers of a commit are made of. -/
theorem State.transferSteps_bounded (s : State V) :
    s.transferSteps.countP CommitStep.isStructural ≤ 1 ∧ s.transferSteps.countP CommitStep.isBand ≤ 16 ∧
    s.transferSteps.count .globalN ≤ 1 ∧ s.transferSteps.countP CommitStep.isDesign = 0 ∧
    s.transferSteps.count .shared = 0 ∧ s.transferSteps.countP CommitStep.isTapSet = 0 := by
  have h : ((List.finRange Config.numBands).filter fun j => s.bands[j].dirty).length ≤ 16 := by
    simpa using List.length_filter_le (fun j : Fin Config.numBands => s.bands[j].dirty) (List.finRange Config.numBands)
  have e : ∀ j, (CommitStep.bandN j == .globalN) = false ∧ (CommitStep.bandN j == .shared) = false := fun _ => ⟨rfl, rfl⟩
  unfold State.transferSteps
  simp only [List.countP_append, List.count, List.countP_map, Function.comp_def, CommitStep.isStructural, CommitStep.isBand,
    CommitStep.isDesign, CommitStep.isTapSet]
  cases s.pendS <;> cases s.pendG <;> cases s.pendB <;> cases s.gdirty <;>
    simpa [CommitStep.isStructural, CommitStep.isBand, CommitStep.isDesign, CommitStep.isTapSet, e] using h

/-- What a RECOMPUTE is made of. -/
theorem State.recomputeSteps_bounded (s : State V) :
    s.recomputeSteps.countP CommitStep.isStructural = 0 ∧ s.recomputeSteps.countP CommitStep.isBand = 0 ∧
    s.recomputeSteps.count .globalN = 0 ∧ s.recomputeSteps.countP CommitStep.isDesign = 16 ∧
    s.recomputeSteps.count .shared = 1 ∧ s.recomputeSteps.countP CommitStep.isTapSet ≤ 6 := by
  have h := s.tapSets_bounded.1
  have e : (∀ j, (CommitStep.design j == .globalN) = false ∧ (CommitStep.design j == .shared) = false) ∧
      ∀ g k, (CommitStep.tapSet g k == .globalN) = false ∧ (CommitStep.tapSet g k == .shared) = false :=
    ⟨fun _ => ⟨rfl, rfl⟩, fun _ _ => ⟨rfl, rfl⟩⟩
  unfold State.recomputeSteps
  simp [List.count, List.countP_map, Function.comp_def, CommitStep.isStructural, CommitStep.isBand, CommitStep.isDesign,
    CommitStep.isTapSet, h, e]

/-- The work of a commit is bounded (R364): at most one structural step, 16 band steps, one global step, one RECOMPUTE with 16
designs and at most 6 tap sets. -/
theorem State.commit_work (s : State V) :
    s.commitSteps.countP CommitStep.isStructural ≤ 1 ∧ s.commitSteps.countP CommitStep.isBand ≤ 16 ∧
    s.commitSteps.count .globalN ≤ 1 ∧ s.commitSteps.countP CommitStep.isDesign ≤ 16 ∧
    s.commitSteps.count .shared ≤ 1 ∧ s.commitSteps.countP CommitStep.isTapSet ≤ 6 := by
  unfold State.commitSteps
  split
  · have a := s.transferSteps_bounded
    have b := (s.runSteps s.transferSteps).recomputeSteps_bounded
    simp [CommitStep.isStructural, CommitStep.isBand, CommitStep.isDesign, CommitStep.isTapSet]
    omega
  · simp

/-- A tap set of a lane has 2M + 1 taps. -/
theorem laneTaps_length (es : Structure) (fs : Nat) (ms : List (Band V)) :
    (laneTaps es fs ms).length = 2 * es.corrM C + 1 := by
  simp [laneTaps, fsd]

theorem laneTargets_length (es : Structure) (fs : Nat) (ms : List (Band V)) :
    (laneTargets es fs ms).length = es.corrM C + 1 := by
  simp [laneTargets]

@[simp] theorem fsdInner_length (M n : Nat) (ts : List (Cpx V)) (k : Nat) : (fsdInner M n k ts).length = ts.length := by
  induction ts generalizing k with
  | nil => rfl
  | cons c cs ih => simp [fsdInner, ih]

/-- A tap set is the sum of (M + 1) * (2M + 1) terms (R364), a group delay M of 0, for which R306 divides by 0, apart. -/
theorem fsdTermCount_eq (M : Nat) (ts : List (Cpx V)) (hM : 0 < M) (h : ts.length = M + 1) :
    fsdTermCount M ts = (M + 1) * (2 * M + 1) := by
  have e : 1 + (M - 1 + 1) = M + 1 := by omega
  simp [fsdTermCount, fsdTerms, h, e, Nat.mul_comm]

end Sys2Proof.Machine
end

