-- ==== Sys2Proof/Tests/Slice0.lean ====
section
/-! SUPPORT. Tests: expected values from spec/95_test_vectors.md and the rules' own tables, and for every statement with
hypotheses a state and operands that meet them. -/

namespace Sys2Proof.Tests

open Sys2Proof.Machine

-- One proof at a time: each checked on a thread of its own, they hold more stack than the check allows.
set_option Elab.async false

/-! ### Well-formedness: each check refuses an ill-formed term -/

theorem test_ill_prepare :
    Instr.wellFormed (.prepare (2 ^ 24) 0) = false ∧ Instr.wellFormed (.prepare 0 (2 ^ 32)) = false ∧
    Instr.wellFormed (.prepare (2 ^ 24 - 1) (2 ^ 32 - 1)) = true := by decide

theorem test_ill_process : Instr.wellFormed (.process (2 ^ 32)) = false ∧ Instr.wellFormed (.process (2 ^ 32 - 1)) = true := by
  decide

theorem test_ill_wrb :
    Instr.wellFormed (.wrbActive 256 0) = false ∧
    Instr.wellFormed (.wrbBypass 256 0) = false ∧
    Instr.wellFormed (.wrbFtype 256 0) = false ∧
    Instr.wellFormed (.wrbOrder 256 0) = false ∧
    Instr.wellFormed (.wrbFreq 256 0) = false ∧
    Instr.wellFormed (.wrbGain 256 0) = false ∧
    Instr.wellFormed (.wrbQ 256 0) = false ∧
    Instr.wellFormed (.wrbStereo 256 0) = false ∧
    Instr.wellFormed (.wrbDynOn 256 0) = false ∧
    Instr.wellFormed (.wrbTgain 256 0) = false ∧
    Instr.wellFormed (.wrbTq 256 0) = false ∧
    Instr.wellFormed (.wrbThresh 256 0) = false ∧
    Instr.wellFormed (.wrbKnee 256 0) = false ∧
    Instr.wellFormed (.wrbAttack 256 0) = false ∧
    Instr.wellFormed (.wrbRelease 256 0) = false ∧
    Instr.wellFormed (.wrbRelThresh 256 0) = false ∧
    Instr.wellFormed (.wrbSideFreq 256 0) = false ∧
    Instr.wellFormed (.wrbSideQ 256 0) = false ∧
    Instr.wellFormed (.wrbSideSwap 256 0) = false ∧
    Instr.wellFormed (.wrbLearn 256 0) = false := by decide

theorem test_ill_rdb :
    Instr.wellFormed (.rdbActive 256) = false ∧
    Instr.wellFormed (.rdbBypass 256) = false ∧
    Instr.wellFormed (.rdbFtype 256) = false ∧
    Instr.wellFormed (.rdbOrder 256) = false ∧
    Instr.wellFormed (.rdbFreq 256) = false ∧
    Instr.wellFormed (.rdbGain 256) = false ∧
    Instr.wellFormed (.rdbQ 256) = false ∧
    Instr.wellFormed (.rdbStereo 256) = false ∧
    Instr.wellFormed (.rdbDynOn 256) = false ∧
    Instr.wellFormed (.rdbTgain 256) = false ∧
    Instr.wellFormed (.rdbTq 256) = false ∧
    Instr.wellFormed (.rdbThresh 256) = false ∧
    Instr.wellFormed (.rdbKnee 256) = false ∧
    Instr.wellFormed (.rdbAttack 256) = false ∧
    Instr.wellFormed (.rdbRelease 256) = false ∧
    Instr.wellFormed (.rdbRelThresh 256) = false ∧
    Instr.wellFormed (.rdbSideFreq 256) = false ∧
    Instr.wellFormed (.rdbSideQ 256) = false ∧
    Instr.wellFormed (.rdbSideSwap 256) = false ∧
    Instr.wellFormed (.rdbLearn 256) = false ∧
    Instr.wellFormed (.rdbCurT 256) = false ∧
    Instr.wellFormed (.rdbCurGain 256) = false ∧
    Instr.wellFormed (.rdbCurQ 256) = false ∧
    Instr.wellFormed (.rdbCurLevel 256) = false ∧
    Instr.wellFormed (.rdbHistP05 256) = false ∧
    Instr.wellFormed (.rdbHistP50 256) = false ∧
    Instr.wellFormed (.rdbHistP95 256) = false ∧
    Instr.wellFormed (.rdbNsec 256) = false := by decide

/-! ### Decoding: words written from the fields of 30_encoding.md R86 to R89 and the register numbers of 10_state.md -/

theorem test_decode_plain :
    decode 0x0000000000000000 = .instr .nop ∧
    decode 0x0100000000000000 = .instr .reset ∧
    decode 0x02ABCDEF12345678 = .instr (.prepare 0xABCDEF 0x12345678) ∧
    decode 0x0300000089ABCDEF = .instr (.process 0x89ABCDEF) := by decide

theorem test_decode_wrb :
    decode 0x10A5000089ABCDEF = .instr (.wrbActive 0xA5 0x89ABCDEF) ∧
    decode 0x10A5010089ABCDEF = .instr (.wrbBypass 0xA5 0x89ABCDEF) ∧
    decode 0x10A5020089ABCDEF = .instr (.wrbFtype 0xA5 0x89ABCDEF) ∧
    decode 0x10A5030089ABCDEF = .instr (.wrbOrder 0xA5 0x89ABCDEF) ∧
    decode 0x10A5040089ABCDEF = .instr (.wrbFreq 0xA5 0x89ABCDEF) ∧
    decode 0x10A5050089ABCDEF = .instr (.wrbGain 0xA5 0x89ABCDEF) ∧
    decode 0x10A5060089ABCDEF = .instr (.wrbQ 0xA5 0x89ABCDEF) ∧
    decode 0x10A5070089ABCDEF = .instr (.wrbStereo 0xA5 0x89ABCDEF) ∧
    decode 0x10A5080089ABCDEF = .instr (.wrbDynOn 0xA5 0x89ABCDEF) ∧
    decode 0x10A5090089ABCDEF = .instr (.wrbTgain 0xA5 0x89ABCDEF) ∧
    decode 0x10A50A0089ABCDEF = .instr (.wrbTq 0xA5 0x89ABCDEF) ∧
    decode 0x10A50B0089ABCDEF = .instr (.wrbThresh 0xA5 0x89ABCDEF) ∧
    decode 0x10A50C0089ABCDEF = .instr (.wrbKnee 0xA5 0x89ABCDEF) ∧
    decode 0x10A50D0089ABCDEF = .instr (.wrbAttack 0xA5 0x89ABCDEF) ∧
    decode 0x10A50E0089ABCDEF = .instr (.wrbRelease 0xA5 0x89ABCDEF) ∧
    decode 0x10A50F0089ABCDEF = .instr (.wrbRelThresh 0xA5 0x89ABCDEF) ∧
    decode 0x10A5100089ABCDEF = .instr (.wrbSideFreq 0xA5 0x89ABCDEF) ∧
    decode 0x10A5110089ABCDEF = .instr (.wrbSideQ 0xA5 0x89ABCDEF) ∧
    decode 0x10A5120089ABCDEF = .instr (.wrbSideSwap 0xA5 0x89ABCDEF) ∧
    decode 0x10A5130089ABCDEF = .instr (.wrbLearn 0xA5 0x89ABCDEF) := by decide

theorem test_decode_rdb :
    decode 0x110F000000000000 = .instr (.rdbActive 15) ∧
    decode 0x110F010000000000 = .instr (.rdbBypass 15) ∧
    decode 0x110F020000000000 = .instr (.rdbFtype 15) ∧
    decode 0x110F030000000000 = .instr (.rdbOrder 15) ∧
    decode 0x110F040000000000 = .instr (.rdbFreq 15) ∧
    decode 0x110F050000000000 = .instr (.rdbGain 15) ∧
    decode 0x110F060000000000 = .instr (.rdbQ 15) ∧
    decode 0x110F070000000000 = .instr (.rdbStereo 15) ∧
    decode 0x110F080000000000 = .instr (.rdbDynOn 15) ∧
    decode 0x110F090000000000 = .instr (.rdbTgain 15) ∧
    decode 0x110F0A0000000000 = .instr (.rdbTq 15) ∧
    decode 0x110F0B0000000000 = .instr (.rdbThresh 15) ∧
    decode 0x110F0C0000000000 = .instr (.rdbKnee 15) ∧
    decode 0x110F0D0000000000 = .instr (.rdbAttack 15) ∧
    decode 0x110F0E0000000000 = .instr (.rdbRelease 15) ∧
    decode 0x110F0F0000000000 = .instr (.rdbRelThresh 15) ∧
    decode 0x110F100000000000 = .instr (.rdbSideFreq 15) ∧
    decode 0x110F110000000000 = .instr (.rdbSideQ 15) ∧
    decode 0x110F120000000000 = .instr (.rdbSideSwap 15) ∧
    decode 0x110F130000000000 = .instr (.rdbLearn 15) ∧
    decode 0x110F200000000000 = .instr (.rdbCurT 15) ∧
    decode 0x110F210000000000 = .instr (.rdbCurGain 15) ∧
    decode 0x110F220000000000 = .instr (.rdbCurQ 15) ∧
    decode 0x110F230000000000 = .instr (.rdbCurLevel 15) ∧
    decode 0x110F240000000000 = .instr (.rdbHistP05 15) ∧
    decode 0x110F250000000000 = .instr (.rdbHistP50 15) ∧
    decode 0x110F260000000000 = .instr (.rdbHistP95 15) ∧
    decode 0x110F270000000000 = .instr (.rdbNsec 15) := by decide

theorem test_decode_wrg :
    decode 0x12000000FEDCBA98 = .instr (.wrgStructure 0xFEDCBA98) ∧
    decode 0x12000100FEDCBA98 = .instr (.wrgZeroLat 0xFEDCBA98) ∧
    decode 0x12000200FEDCBA98 = .instr (.wrgLookahead 0xFEDCBA98) ∧
    decode 0x12000300FEDCBA98 = .instr (.wrgScPresent 0xFEDCBA98) ∧
    decode 0x12000400FEDCBA98 = .instr (.wrgSolo 0xFEDCBA98) ∧
    decode 0x12000500FEDCBA98 = .instr (.wrgTrim 0xFEDCBA98) ∧
    decode 0x12000600FEDCBA98 = .instr (.wrgEffectOn 0xFEDCBA98) ∧
    decode 0x12000700FEDCBA98 = .instr (.wrgHq 0xFEDCBA98) ∧
    decode 0x12000800FEDCBA98 = .instr (.wrgPhaseFlip 0xFEDCBA98) ∧
    decode 0x12000900FEDCBA98 = .instr (.wrgSgcOn 0xFEDCBA98) ∧
    decode 0x12000A00FEDCBA98 = .instr (.wrgMeasure 0xFEDCBA98) ∧
    decode 0x12000B00FEDCBA98 = .instr (.wrgRmsMs 0xFEDCBA98) ∧
    decode 0x12000C00FEDCBA98 = .instr (.wrgDecaySel 0xFEDCBA98) := by decide

theorem test_decode_rdg :
    decode 0x1300000000000000 = .instr .rdgStructure ∧
    decode 0x1300010000000000 = .instr .rdgZeroLat ∧
    decode 0x1300020000000000 = .instr .rdgLookahead ∧
    decode 0x1300030000000000 = .instr .rdgScPresent ∧
    decode 0x1300040000000000 = .instr .rdgSolo ∧
    decode 0x1300050000000000 = .instr .rdgTrim ∧
    decode 0x1300060000000000 = .instr .rdgEffectOn ∧
    decode 0x1300070000000000 = .instr .rdgHq ∧
    decode 0x1300080000000000 = .instr .rdgPhaseFlip ∧
    decode 0x1300090000000000 = .instr .rdgSgcOn ∧
    decode 0x13000A0000000000 = .instr .rdgMeasure ∧
    decode 0x13000B0000000000 = .instr .rdgRmsMs ∧
    decode 0x13000C0000000000 = .instr .rdgDecaySel ∧
    decode 0x1300200000000000 = .instr .rdgLatency ∧
    decode 0x1300210000000000 = .instr .rdgSrate ∧
    decode 0x1300220000000000 = .instr .rdgMaxblock ∧
    decode 0x1300230000000000 = .instr .rdgSublen ∧
    decode 0x1300240000000000 = .instr .rdgStatus ∧
    decode 0x1300250000000000 = .instr .rdgLatSeq ∧
    decode 0x1300260000000000 = .instr .rdgAgain ∧
    decode 0x1300270000000000 = .instr .rdgEffStruct := by decide
/-- 95_test_vectors.md 2.3: none of these is a command. -/
theorem test_decode_reserved :
    decode 0x0400000000000000 = .reserved .opcode ∧ decode 0x0F00000000000000 = .reserved .opcode ∧
    decode 0x1400000000000000 = .reserved .opcode ∧ decode 0xFFFFFFFFFFFFFFFF = .reserved .opcode ∧
    decode 0x0000000000000001 = .reserved .mustBeZero ∧ decode 0x0100000000000001 = .reserved .mustBeZero ∧
    decode 0x1000050140C00000 = .reserved .mustBeZero ∧ decode 0x1201000000000001 = .reserved .mustBeZero ∧
    decode 0x0300000100000010 = .reserved .mustBeZero ∧ decode 0x1000140000000001 = .reserved .register ∧
    decode 0x100020003F800000 = .reserved .register ∧ decode 0x12000D0000000001 = .reserved .register ∧
    decode 0x1200200000000005 = .reserved .register ∧ decode 0x1100140000000000 = .reserved .register ∧
    decode 0x13000D0000000000 = .reserved .register ∧ decode 0x1100050000000001 = .reserved .mustBeZero := by decide

theorem test_decodeTableWord :
    decodeTableWord 64 0x13000B0000000000 = some .rdgRmsMs ∧ decodeTableWord 64 0x0500000000000000 = none := by decide

/-! ### A small state -/

/-- The reset state with words waiting at its ports. -/
def waiting (cmds : List PortCmd) (audio : List DataWord) : State :=
  { State.reset with io := { Ports.idle with cmds := cmds, audioIn := audio } }

/-- The reset state as if prepared at 1000 Hz, one frame a sub-block, with `s0`'s ports. -/
def prepared (audio : List DataWord) : State :=
  { waiting [] audio with
    prepared := true, fs := 1000, sublen := 1, w := 1, latency := 1
    fifo := Fifo.zero 1, base := PerMode.of fun _ => Tracker.zero 1 }

/-- A state with band 0 replaced. -/
def withBand (s : State) (f : Band → Band) : State := { s with bands := s.bands.set 0 (f s.bands[0]) }

/-- The response words of a control-port step that answers. -/
def answers (o : Host.Outcome State Fault Refusal) : List DataWord :=
  match o with
  | .next t => t.io.respCtrl
  | _ => []

/-! ### Words and registers: 95_test_vectors.md 2.2, 2.4 -/

theorem test_f32_words :
    f32enc (1 / 40 : Rat) = 0x3CCCCCCD ∧ f32enc (1 / 100 : Rat) = 0x3C23D70A ∧ f32enc (25 : Rat) = 0x41C80000 ∧
    f32enc (-30 : Rat) = 0xC1F00000 ∧
    f32val 0x7FC00000 = .nan ∧ f32val 0xFF800000 = .inf true ∧ f32val 0x80000000 = .fin 0 ∧ f32val 0x41200000 = .fin 10 ∧
    f32val 0x00000001 = .fin (1 / 2 ^ 149) := by decide +kernel

theorem test_legalOrder : [0, 1, 2, 3, 5, 15, 16, 17].map legalOrder = [1, 1, 2, 2, 4, 14, 16, 16] := by decide

theorem test_readBack_band :
    (State.reset.writeBand .q 3 0x42C80000).readBand .q 3 = 0x41C80000 ∧
    (State.reset.writeBand .gain 3 0x7F800000).readBand .gain 3 = 0x41F00000 ∧
    (State.reset.writeBand .freq 3 0x80000000).readBand .freq 3 = 0x41200000 ∧
    (State.reset.writeBand .order 3 7).readBand .order 3 = 6 ∧
    (State.reset.writeBand .ftype 3 9).readBand .ftype 3 = 8 ∧
    (State.reset.writeBand .stereo 3 200).readBand .stereo 3 = 4 ∧
    (State.reset.writeBand .active 3 2).readBand .active 3 = 1 ∧
    (State.reset.writeBand .knee 3 0).readBand .knee 3 = 0x3C23D70A ∧
    (State.reset.writeBand .thresh 3 0x41200000).readBand .thresh 3 = 0 ∧
    (State.reset.writeBand .attack 3 0xBF800000).readBand .attack 3 = 0 ∧
    (State.reset.writeBand .q 3 0x7FC00000).readBand .q 3 = 0x3F3504F3 := by decide +kernel

theorem test_readBack_global :
    (State.reset.writeGlobal .struct 6).readGlobal .struct = 5 ∧
    (State.reset.writeGlobal .solo 99).readGlobal .solo = 16 ∧
    (State.reset.writeGlobal .solo 15).readGlobal .solo = 15 ∧
    (State.reset.writeGlobal .lookahead 0x42C80000).readGlobal .lookahead = 0x41A00000 ∧
    (State.reset.writeGlobal .trim 0xC2C80000).readGlobal .trim = 0xC1F00000 ∧
    (State.reset.writeGlobal .rmsMs 0x7F800000).readGlobal .rmsMs = 0x447A0000 ∧
    (State.reset.writeGlobal .decaySel 5).readGlobal .decaySel = 1 := by decide +kernel

theorem test_reset_band :
    [BandReg.active, .bypass, .ftype, .order, .freq, .gain, .q, .stereo, .dynOn, .tgain, .tq, .thresh, .knee, .attack,
      .release, .relThresh, .sideFreq, .sideQ, .sideSwap, .learn].map (fun r => State.reset.readBand r 15) =
    [0, 0, 0, 2, 0x447A0000, 0, 0x3F3504F3, 0, 0, 0, 0x3F3504F3, 0xC1A00000, 0x40C00000, 0x42480000, 0x43FA0000, 0,
      0x447A0000, 0x3F3504F3, 0, 0] := by decide +kernel

theorem test_reset_display :
    [DispReg.curT, .curGain, .curQ, .curLevel, .histP05, .histP50, .histP95, .nsec].map (fun r => State.reset.readDisplay r 0) =
    [0, 0, 0x3F3504F3, 0xC2F00000, 0x42A00000, 0x42A00000, 0x42A00000, 1] := by decide +kernel

theorem test_reset_global :
    [GlobalReg.struct, .zeroLat, .lookahead, .scPresent, .solo, .trim, .effectOn, .hq, .phaseFlip, .sgcOn, .measure, .rmsMs,
      .decaySel].map State.reset.readGlobal = [0, 0, 0, 0, 16, 0, 1, 0, 0, 0, 0, 0x41200000, 0] ∧
    [RoReg.latency, .srate, .maxblock, .sublen, .status, .latSeq, .again, .effStruct].map State.reset.readRo =
      [0, 0, 0, 0, 0, 0, 0, 0] := by decide +kernel

theorem test_flags :
    (((State.reset.writeGlobal .lookahead 0).writeBand .stereo 1 1).writeGlobal .solo 3 |>.writeGlobal .trim 0).statusWord =
      0x1E ∧
    (State.reset.writeBand .gain 2 0).bands[2].dirty = true ∧ (State.reset.writeBand .gain 2 0x7FC00000).bands[2].dirty = false :=
  by decide +kernel

theorem test_f32_range :
    f32enc maxF32 = 0x7F7FFFFF ∧ f32enc (maxF32 + 1 / 1000) = 0x7F800000 ∧ f32enc (-maxF32 - 2 ^ 102) = 0xFF800000 ∧
    f32enc (mkRat 1 (2 ^ 150)) = 0 ∧ f32enc (-mkRat 3 (2 ^ 151)) = 0x80000001 ∧ f32enc (mkRat (2 ^ 24 - 1) (2 ^ 150)) = 0x00800000 :=
  by decide +kernel

/-- A configuration with other parameters: FREQ_MAX 5000 and CORR_M_MATCHED 64 (00_scope.md R9). -/
theorem test_config :
    let C : Config Rat := { Config.standard with freqMax := 5000, corrMMatched := 64 }
    (execIn C (.wrbFreq 0 0x7F800000) State.reset matches .next _) = true ∧
    ((BandReg.freq.store 0x7F800000 BandRegs.reset C).map (·.freq)) = some 5000 ∧ Structure.corrM .matched C = 64 := by
  decide +kernel

/-- A step takes the command off the stream and answers on its port (30_encoding.md R92). -/
theorem test_step_read :
    answers (step (waiting [⟨.ctrl, 0x1300040000000000⟩] [])) = [0x10] ∧
    answers (step (waiting [⟨.ctrl, 0x1300050000000001⟩] [])) = [0] ∧
    answers (step (waiting [⟨.audio, 0x1300040000000000⟩] [])) = [] ∧
    answers (step (waiting [⟨.ctrl, 0x0400000000000000⟩] [])) = [] := by decide +kernel

theorem test_withFetchWord : answers (step (State.reset.withFetchWord 64 0x1100040000000000)) = [0x447A0000] := by
  decide +kernel

/-! ### PREPARE and the latency figure: 95_test_vectors.md 2.4, T1 to T9 -/

theorem test_sublen : [48000, 44100, 96000, 1999].map subLen = [48, 44, 96, 1] := by decide +kernel

theorem test_lookahead :
    laFrames { (GlobalRegs.reset : GlobalRegs) with lookahead := 3 / 2 } 48000 = 72 ∧ laFrames { (GlobalRegs.reset : GlobalRegs) with lookahead := 1 } 44100 = 44 ∧
    laFrames { (GlobalRegs.reset : GlobalRegs) with lookahead := 20 } 44100 = 882 := by decide +kernel

theorem test_rmsWindow :
    rmsWindow (GlobalRegs.reset : GlobalRegs) 48000 = 480 ∧ rmsWindow (GlobalRegs.reset : GlobalRegs) 44100 = 441 ∧
    rmsWindow { (GlobalRegs.reset : GlobalRegs) with rmsMs := 0 } 48000 = 1 := by decide +kernel

/-- MIXED at 44100 Hz with 1 ms of lookahead and an active MID band: 44 + 44 + 2 * 256; none of it but the lookahead with zero
latency. -/
theorem test_latency :
    (withBand { prepared [] with
        fs := 44100, sublen := 44, cg := { GlobalRegs.reset with struct := .mixed, lookahead := 1 } }
      fun b => { b with comm := { b.comm with active := true, stereo := .mid } }).latencyOf = 600 ∧
    (withBand { prepared [] with
        fs := 44100, sublen := 44, cg := { GlobalRegs.reset with struct := .mixed, lookahead := 1, zeroLat := true } }
      fun b => { b with comm := { b.comm with active := true, stereo := .mid } }).latencyOf = 44 := by decide +kernel

/-- A correction history at reset: 4097 zeros at the default sizes, no taps (10_state.md R37). -/
theorem test_reset_corr :
    (State.reset.corr.get .ms).s1.taps = [] ∧ (State.reset.corr.get .ms).s1.hist = List.replicate 4097 0 ∧
    (State.reset.corr.get .ms).s1.hist.length = 4097 ∧ (State.reset.corr.get .ms).s1.cpos = 0 :=
  ⟨rfl, rfl, List.length_replicate, rfl⟩

/-- PREPARE 48000, 512 from reset: LATENCY 48 and its event. -/
theorem test_prepare :
    (State.reset.prepareWith 512 48000).latency = 48 ∧ (State.reset.prepareWith 512 48000).latSeq = 1 ∧
    (State.reset.prepareWith 512 48000).io.events = [.latencyChanged 48] ∧
    (State.reset.prepareWith 512 48000).statusWord = 1 := by decide +kernel

/-- One structural class a commit, S first (95_test_vectors.md P2). -/
theorem test_commit_priority :
    ({ prepared [] with pendS := true, pendG := true, pendB := true } : State).commit.statusWord = 0x0D ∧
    ({ prepared [] with pendG := true, pendB := true } : State).commit.statusWord = 0x09 ∧
    ({ prepared [] with pendB := true } : State).commit.statusWord = 0x01 := by decide +kernel

/-- The work of a commit (45_controller.md R364): of three pending classes one; the global step; one design a band. -/
theorem test_commit_work :
    ({ prepared [] with pendS := true, pendG := true, gdirty := true } : State).commitSteps =
      [.classS, .globalN] ++ (List.finRange 16).map .design ++ [.shared, .latency] ∧
    (prepared []).commitSteps = [] := by decide +kernel

/-- All three groups in use in a correcting structure: six tap sets. -/
theorem test_tapSets :
    ({ prepared [] with
        cg := { GlobalRegs.reset with struct := .linear }
        bands := ((prepared []).bands.set 0 { Band.reset with comm := { BandRegs.reset with active := true, stereo := .left } }).set 1
          { Band.reset with comm := { BandRegs.reset with active := true, stereo := .side } } } : State).tapSets.length = 6 := by
  decide +kernel

/-! ### Designer: 95_test_vectors.md 3 -/

/-- Within 10^-12 of a decimal of the test vectors. -/
def near (x y : Rat) : Bool := decide (x - y < 1 / 10 ^ 12) && decide (y - x < 1 / 10 ^ 12)

/-- The one section of a design is near the given coefficients. -/
def sectionNear (cs : List Section) (b0 b1 b2 a1 a2 : Rat) : Bool :=
  match cs with
  | [c] => near c.b0 b0 && near c.b1 b1 && near c.b2 b2 && c.a0 == 1 && near c.a1 a1 && near c.a2 a2
  | _ => false

theorem test_lowPass1 :
    sectionNear (design .lowPass 1000 0 qReset 1 48000) 0.06151176850362156 0.06151176850362156 0 (-0.8769764629927568) 0 =
      true := by decide +kernel

theorem test_peak :
    sectionNear (design .peak 1000 6 qReset 8 48000) 1.061042426244059 (-1.861273142042754) 0.8162915683702784
      (-1.861273142042754) 0.877333994614338 = true := by decide +kernel

theorem test_notch :
    sectionNear (design .notch 1000 0 2 1 48000) 0.9683996212235864 (-1.920229656436938) 0.9683996212235864
      (-1.920229656436938) 0.9367992424471727 = true := by decide +kernel

theorem test_bandShelf :
    sectionNear (design .bandShelf 1000 6 qReset 2 48000) 1.057509346246184 (-1.743501468158347) 0.7010801999678403
      (-1.743501468158347) 0.758589546214024 = true := by decide +kernel

theorem test_effOrder :
    [1, 2, 8].map (effOrder .peak) = [2, 2, 2] ∧ [1, 2, 8].map (effOrder .notch) = [2, 2, 8] ∧
    [1, 2, 8].map (effOrder .lowPass) = [1, 2, 8] := by decide

/-! ### Filter, detector, histogram, solo, compensation: 95_test_vectors.md 4 to 6 -/

theorem test_tdf2 :
    (tdf2Tick ⟨1, 2, 3, 1, 5, 7⟩ ⟨10, 20⟩ (2 : Rat)).1 = 12 ∧ (tdf2Tick ⟨1, 2, 3, 1, 5, 7⟩ ⟨10, 20⟩ (2 : Rat)).2 = ⟨-36, -78⟩ := by
  decide +kernel

theorem test_morph :
    [0, 5 / 32, 1 / 2, 27 / 32, 1].map (fun t : Rat => (morph { (BandRegs.reset : BandRegs) with gain := 6 } t).1) = [6, 81 / 16, 3, 15 / 16, 0] := by
  decide +kernel

theorem test_knee : [-10, -3, -3 / 2, 0, 3 / 2, 3, 10].map (fun x : Rat => knee x 6) = [0, 0, 5 / 32, 1 / 2, 27 / 32, 1, 1] := by
  decide +kernel

theorem test_smooth : smooth 48000 (0 : Rat) 48 = 0 ∧ near (smooth 48000 (50 : Rat) 48) 0.9801986733067553 = true := by decide +kernel

theorem test_level : level 480 (0 : Rat) = -120 ∧ near (level 480 (48 / 10)) (-20) = true := by decide +kernel

/-- H1: three pushes of 5. -/
theorem test_hist :
    let h := (((Hist.empty : Hist).push 5 (9995 / 10000)).push 5 (9995 / 10000)).push 5 (9995 / 10000)
    h.total = 299850025 / 100000000 ∧ [0, 1 / 20, 1 / 2, 19 / 20, 1].map h.pct = [0, 101 / 20, 11 / 2, 119 / 20, 6] ∧
    (Hist.empty : Hist).pct (1 / 2) = 80 := by decide +kernel

/-- H3: the ends of the axis. -/
theorem test_hist_ends : ([-4, 0, 79, 7999 / 100, 80, 95].map fun v : Rat => histBin v) = [0, 0, 79, 79, 79, 79] := by decide +kernel

theorem test_sgc :
    near (Config.standard.sgcEst .lowShelf 100 6 1) 1.397940008672037609 = true ∧ Config.standard.sgcEst .notch 100 6 1 = 0 ∧
    near (Config.standard.sgcEst .tiltShelf 1000 6 1) (-0.397940008672037609) = true := by decide +kernel

theorem test_soloMap :
    Config.standard.soloMap .peak 1000 2 = (1000, 2) ∧ (Config.standard.soloMap .lowPass 5000 1).1 = 10000 ∧ near (Config.standard.soloMap .lowPass 5000 1).2 (2 / 3) = true ∧
    Config.standard.soloMap .highShelf 20000 1 = (20000, 25) := by decide +kernel

/-- MS_FLOOR, AUDIBLE_LO and F_LOW_REF are read: other values of them, other answers (00_scope.md R9, 43_detector_histogram.md
R256, 45_controller.md R355, R359). -/
theorem test_openParameters :
    near ({ Config.standard with msFloor := 1 / 10 ^ 10 } : Config Rat).levelFloorDb (-100) = true ∧
    ({ Config.standard with audibleLo := 100 } : Config Rat).sgcEst .lowShelf 100 6 1 = 0 ∧
    ({ Config.standard with fLowRef := 1000 } : Config Rat).soloMap .highPass 1000 1 = (1000, 25) := by decide +kernel

theorem test_effStruct :
    [Structure.minphase, .svf, .parallel, .matched, .mixed, .linear].map
      (fun x => (effStruct { (GlobalRegs.reset : GlobalRegs) with struct := x, zeroLat := true }).code) = [0, 1, 2, 0, 0, 0] := by decide

/-- A correction stage with all targets 1 is the unit impulse at tap M (44_structure_correction.md R307). -/
theorem test_fsd : fsd 4 (List.replicate 5 (Arith.Cpx.one : Arith.Cpx)) = [0, 0, 0, 0, 1, 0, 0, 0, 0] ∧
    fsdTermCount 4 (List.replicate 5 (Arith.Cpx.one : Arith.Cpx)) = 5 * 9 := by decide +kernel

/-- The correction ring: after M more frames the value comes back (44_structure_correction.md R315). -/
theorem test_delayMode :
    (corrRun false 2 ⟨[], [0, 0, 0], 0⟩ [(1 : Rat), 2, 3, 4, 5]).1 = [0, 0, 1, 2, 3] ∧
    (corrRun true 1 ⟨[1, 10, 100], [0, 0, 0], 1⟩ [(1 : Rat), 2, 3, 4]).1 = [1, 12, 123, 234] := by decide +kernel

/-- Before PREPARE the main pair passes (45_controller.md R332), a short stream is processed as far as it goes (R61, R65). -/
theorem test_process_unprepared :
    (match step (waiting [⟨.audio, 0x0300000000000005⟩] [0x3F800000, 0xBF000000, 1, 2, 3]) with
      | .next t => (t.io.audioIn, t.io.audioOut)
      | _ => ([], [])) = ([3], [0x3F800000, 0xBF000000]) := by decide +kernel

theorem test_process_nan :
    (match step (waiting [⟨.audio, 0x0300000000000001⟩] [0x7FC00000, 0, 0, 0]) with
      | .refused r => some r
      | _ => none) = some .nonFiniteSample := by decide +kernel

/-- A prepared, idle block with one frame a sub-block delays by one frame. -/
theorem test_process_prepared :
    (match exec (.process 2) (prepared [0x3F800000, 0xBF000000, 0, 0, 0x40000000, 0, 0, 0]) with
      | .next t => t.io.audioOut
      | _ => []) = [0, 0, 0x3F800000, 0xBF000000] := by decide +kernel


/-! ### Witnesses: for every statement with hypotheses, a state and operands that meet them -/

/-- The step went on. -/
def goesOn (o : Host.Outcome State Fault Refusal) : Bool :=
  match o with
  | .next _ => true
  | _ => false

theorem exists_next {o : Host.Outcome State Fault Refusal} (h : goesOn o = true) : ∃ t, o = .next t := by
  cases o with
  | next t => exact ⟨t, rfl⟩
  | fault r => cases h
  | refused r => cases h

/-- The block prepared at 1000 Hz, so that a sub-block is one frame. -/
def fresh : State := State.reset.prepareWith 512 1000

/-- The same with two writes staged, one frame at the port, and PROCESS 1 waiting. -/
def live : State :=
  let s := (fresh.writeBand .gain 0 0x40C00000).writeGlobal .zeroLat 1
  { s with io := { s.io with cmds := [⟨.audio, 0x0300000000000001⟩], audioIn := [0x3F800000, 0xBF800000, 0, 0] } }

/-- The reset state with `audio` waiting. -/
def unprepared (audio : List DataWord) : State := waiting [] audio

theorem live_finite : live.SamplesFinite := by
  intro w hw
  have : w ∈ ([0x3F800000, 0xBF800000, 0, 0] : List DataWord) := hw
  simp only [List.mem_cons, List.not_mem_nil, or_false] at this
  rcases this with rfl | rfl | rfl | rfl
  · exact ⟨1, by decide +kernel⟩
  · exact ⟨-1, by decide +kernel⟩
  · exact ⟨0, by decide +kernel⟩
  · exact ⟨0, by decide +kernel⟩

theorem live_next : ∃ t, step live = .next t := exists_next (by decide +kernel)

theorem live_process : ∃ t, exec (.process 1) live = .next t := exists_next (by decide +kernel)

theorem witness_DecodeEncode :
    Instr.wellFormed (.prepare (2 ^ 24 - 1) (2 ^ 32 - 1)) = true ∧ Instr.wellFormed (.wrbActive 255 0xFFFFFFFF) = true ∧
    Instr.wellFormed (.rdbNsec 0) = true := by decide

theorem witness_EncodeDecode : decode 0x03000000FFFFFFFF = .instr (.process 0xFFFFFFFF) := by decide

theorem witness_StepRunsDecoded :
    (waiting [⟨.ctrl, 0x1300040000000000⟩] []).io.cmds = [⟨.ctrl, 0x1300040000000000⟩] ∧
    decode 0x1300040000000000 = .instr .rdgSolo := by decide

theorem witness_StepReserved :
    (waiting [⟨.ctrl, 0x13000D0000000000⟩] []).io.cmds = [⟨.ctrl, 0x13000D0000000000⟩] ∧
    decode 0x13000D0000000000 = .reserved .register ∧
    State.reset.io.cur = .ctrl ∧ ({ State.reset with io := { Ports.idle with cur := .audio } } : State).io.cur = .audio ∧
    State.reset.io.cmds = [] := by decide

theorem witness_NothingRaises : live.SamplesFinite := live_finite

/-- What a step refuses with. -/
def refusedWith (o : Host.Outcome State Fault Refusal) : Option Refusal :=
  match o with
  | .refused r => some r
  | _ => none

theorem witness_ProcessRefuses :
    refusedWith (exec (.process 1) (unprepared [0x7F800000, 0, 0, 0])) = some .nonFiniteSample ∧
    0 < min 1 ((unprepared [0x7F800000, 0, 0, 0]).io.audioIn.length / 4) ∧
    (unprepared [0x7F800000, 0, 0, 0]).io.audioIn[4 * 0]? = some 0x7F800000 ∧
    (unprepared [0, 0x7FC00000, 0, 0]).io.audioIn[4 * 0 + 1]? = some 0x7FC00000 ∧
    f32val 0x7F800000 = .inf false ∧ f32val 0x7FC00000 = .nan := by decide +kernel

theorem witness_LegalOrder :
    [0, 1, 2, 3, 14, 15, 16].map (fun u => (decide (u ≤ 1), decide (16 ≤ u), u % 2)) =
      [(true, false, 0), (true, false, 1), (false, false, 0), (false, false, 1), (false, false, 0), (false, false, 1),
        (false, true, 0)] := by decide

theorem witness_F32Value :
    f32val (BitVec.ofNat 32 (1 * 2 ^ 31 + 255 * 2 ^ 23 + (2 ^ 23 - 1))) = .nan ∧
    f32val (BitVec.ofNat 32 (1 * 2 ^ 31 + 255 * 2 ^ 23 + 0)) = .inf true ∧
    f32val (BitVec.ofNat 32 (1 * 2 ^ 31 + 0 * 2 ^ 23 + (2 ^ 23 - 1))) = .fin (-(2 ^ 23 - 1) / 2 ^ 149) ∧
    f32val (BitVec.ofNat 32 (0 * 2 ^ 31 + 1 * 2 ^ 23 + 0)) = .fin (1 / 2 ^ 126) ∧
    f32val (BitVec.ofNat 32 (0 * 2 ^ 31 + 254 * 2 ^ 23 + 0)) = .fin (2 ^ 127) := by decide +kernel

theorem witness_F32RoundTrip :
    f32val 0xFF7FFFFF = .fin (-(2 ^ 24 - 1) * 2 ^ 104) ∧ f32val 0x00000001 = .fin (1 / 2 ^ 149) ∧ f32val 0 = .fin 0 := by
  decide +kernel

theorem witness_WrbCode :
    (8 : DataWord).toNat = FType.tiltShelf.code ∧ 8 < (9 : DataWord).toNat ∧ (0 : DataWord).toNat = FType.peak.code ∧
    (4 : DataWord).toNat = Stereo.side.code ∧ 4 < (5 : DataWord).toNat := by decide

theorem witness_WrbF32 :
    f32val 0x7FC00000 = .nan ∧ f32val 0xFF800000 = .inf true ∧ f32val 0x7F800000 = .inf false ∧
    f32val 0x41200000 = .fin 10 ∧ f32val 0x469C4000 = .fin 20000 := by decide +kernel

theorem witness_NoSuchBand : (16 : Nat) ≤ 16 := by decide

theorem witness_WrgCode : (5 : DataWord).toNat = Structure.linear.code ∧ 5 < (6 : DataWord).toNat := by decide

theorem witness_WrgF32 :
    f32val 0x7FC00000 = .nan ∧ f32val 0xFF800000 = .inf true ∧ f32val 0x7F800000 = .inf false ∧
    f32val 0x41A00000 = .fin 20 := by decide +kernel

theorem witness_ReadBack :
    BandReg.q.kind.readBack 0x7FC00000 = none ∧ BandReg.q.kind.readBack 0x42C80000 = some 0x41C80000 ∧
    GlobalReg.trim.kind.readBack 0x7F800001 = none ∧ GlobalReg.solo.kind.readBack 99 = some 16 := by decide +kernel

theorem witness_RegisterCommandsLeaveAudio :
    Instr.wrbGain 0 0 ≠ .reset ∧ (∀ m f, Instr.wrbGain 0 0 ≠ .prepare m f) ∧ (∀ n, Instr.wrbGain 0 0 ≠ .process n) ∧
    ∃ t, exec (.wrbGain 0 0) live = .next t :=
  ⟨nofun, nofun, nofun, exists_next (by decide +kernel)⟩

theorem witness_Prepare : 0 < 1 := by decide

theorem witness_ProcessUnprepared :
    (unprepared [1, 2, 3, 4, 5]).prepared = false ∧
    (unprepared [1, 2, 3, 4, 5]).io.audioIn =
      ([(1, 2, 3, 4)] : List (DataWord × DataWord × DataWord × DataWord)).flatMap (fun f => [f.1, f.2.1, f.2.2.1, f.2.2.2]) ++
        [5] ∧
    ([(1, 2, 3, 4)] : List (DataWord × DataWord × DataWord × DataWord)).length < 2 ∧ ([5] : List DataWord).length < 4 ∧
    f32val 1 = .fin (1 / 2 ^ 149) ∧ f32val 2 = .fin (2 / 2 ^ 149) := by decide +kernel

theorem witness_ProcessCompletes : live.prepared = true ∧ 0 < live.sublen ∧ live.SamplesFinite :=
  ⟨by decide +kernel, by decide +kernel, live_finite⟩

theorem witness_CommitTransfers :
    live.prepared = true ∧ live.pendS = true ∧ live.bands[0].dirty = true ∧ ∃ t, exec (.process 1) live = .next t :=
  ⟨by decide +kernel, by decide +kernel, by decide +kernel, live_process⟩

/-- A state in which band 0 stops learning, its histogram holding `h`. -/
def stops (h : Hist) : State :=
  withBand fresh fun b => { b with dirty := true, comm := { b.comm with learn := true }, hist := h }

theorem witness_StopLearning :
    (0 < ((Hist.empty : Hist).push 5 1).total ∧ (stops (Hist.empty.push 5 1)).bands[0].comm.learn = true ∧
      (stops (Hist.empty.push 5 1)).bands[0].staged.learn = false ∧
      ∃ t, exec (.process 0) (stops (Hist.empty.push 5 1)) = .next t) ∧
    (¬ 0 < (Hist.empty : Hist).total ∧ (stops Hist.empty).bands[0].dirty = true ∧ (stops Hist.empty).prepared = true ∧
      ∃ t, exec (.process 0) (stops Hist.empty) = .next t) :=
  ⟨⟨by decide +kernel, by decide +kernel, by decide +kernel, exists_next (by decide +kernel)⟩,
    by decide +kernel, by decide +kernel, by decide +kernel, exists_next (by decide +kernel)⟩

theorem witness_StagedKept :
    (live.bands[0].dirty && live.bands[0].comm.learn && !live.bands[0].staged.learn) = false ∧
    ∃ t, exec (.process 1) live = .next t := ⟨by decide +kernel, live_process⟩

/-- A structure change waiting, and nothing else. -/
def restructured : State := fresh.writeGlobal .struct 1

theorem witness_StructureTransition :
    restructured.prepared = true ∧ restructured.pendS = true ∧ restructured.gdirty = false ∧
    (∀ b : Fin 16, restructured.bands[b].dirty = false) ∧ ∃ t, exec (.process 0) restructured = .next t :=
  ⟨by decide +kernel, by decide +kernel, by decide +kernel, by decide +kernel, exists_next (by decide +kernel)⟩

theorem witness_NothingPending :
    fresh.prepared = true ∧ fresh.anyFlag = false ∧ fresh.io.audioIn.length < 4 := by decide +kernel

/-- Three frames waiting, nothing to commit. -/
def streaming : State := { fresh with io := { fresh.io with audioIn := [1, 2, 3, 4, 5, 6, 7, 8, 9, 10, 11, 12] } }

theorem witness_BlockSize :
    streaming.prepared = true ∧ streaming.anyFlag = false ∧ (streaming.cg.zeroLat = true → 1 % streaming.sublen = 0) ∧
    ∃ t, exec (.process 1) streaming = .next t ∧ ∃ u, exec (.process 2) t = .next u := by
  refine ⟨by decide +kernel, by decide +kernel, by decide +kernel, ?_⟩
  have h : goesOn (match exec (.process 1) streaming with
      | .next t => exec (.process 2) t
      | o => o) = true := by decide +kernel
  obtain ⟨t, ht⟩ : ∃ t, exec (.process 1) streaming = .next t := exists_next (by decide +kernel)
  rw [ht] at h
  exact ⟨t, ht, exists_next h⟩

theorem witness_SideIgnored :
    streaming.prepared = true ∧ streaming.commit.cg.scPresent = false ∧
    ([1, 2, 0x7FC00000, 0, 5, 6, 0, 0, 9, 10, 0, 0] : List DataWord).length = streaming.io.audioIn.length ∧
    (∀ k, ([1, 2, 0x7FC00000, 0, 5, 6, 0, 0, 9, 10, 0, 0] : List DataWord)[4 * k]? = streaming.io.audioIn[4 * k]? ∧
      ([1, 2, 0x7FC00000, 0, 5, 6, 0, 0, 9, 10, 0, 0] : List DataWord)[4 * k + 1]? = streaming.io.audioIn[4 * k + 1]?) ∧
    ∃ t, exec (.process 3) streaming = .next t := by
  refine ⟨by decide +kernel, by decide +kernel, by decide +kernel, fun k => ?_, exists_next (by decide +kernel)⟩
  have h : streaming.io.audioIn = [1, 2, 3, 4, 5, 6, 7, 8, 9, 10, 11, 12] := rfl
  rw [h]
  match k with
  | 0 => decide
  | 1 => decide
  | 2 => decide
  | k + 3 => simp [Nat.mul_add]

theorem witness_PreparationState :
    (∃ t, exec (.process 1) live = .next t) ∧ ∃ t, exec .reset live = .next t := ⟨live_process, _, rfl⟩

theorem witness_LatencyEvents :
    (∃ t, exec (.process 1) live = .next t) ∧ (∃ t, exec .nop live = .next t) ∧ ∃ t, exec .reset live = .next t :=
  ⟨live_process, ⟨_, rfl⟩, _, rfl⟩

theorem witness_LatencyFormula :
    let s := withBand fresh fun b => { b with comm := { b.comm with active := true, stereo := .left } }
    s.bands[(0 : Fin 16)].comm.active = true ∧ s.bands[(0 : Fin 16)].comm.stereo = .left ∧
    ¬ ∃ b : Fin 16, s.bands[b].comm.active = true ∧ (s.bands[b].comm.stereo = .mid ∨ s.bands[b].comm.stereo = .side) := by
  decide +kernel

theorem live_registers : live.RegistersLegal := by
  have h : ∀ b : Fin 16, live.bands[b].staged =
      if b = 0 then { (BandRegs.reset : BandRegs) with gain := 6 } else BandRegs.reset := by decide +kernel
  have h' : ∀ b : Fin 16, live.bands[b].comm = BandRegs.reset := by decide +kernel
  have r : (BandRegs.reset : BandRegs).Legal := by constructor <;> first | decide +kernel | (unfold Within; decide +kernel)
  have g : ({ BandRegs.reset with gain := 6 } : BandRegs).Legal := by
    constructor <;> first | decide +kernel | (unfold Within; decide +kernel)
  refine ⟨?_, ?_, fun b => ?_, fun b => h' b ▸ r⟩
  · constructor <;> first | decide +kernel | (unfold Within; decide +kernel)
  · constructor <;> first | decide +kernel | (unfold Within; decide +kernel)
  · rw [h b]; split
    · exact g
    · exact r

theorem witness_RegistersStayLegal : live.RegistersLegal ∧ ∃ t, step live = .next t := ⟨live_registers, live_next⟩

theorem witness_NothingStaysLost : live.NothingLost ∧ ∃ t, step live = .next t :=
  ⟨⟨by decide +kernel, by decide +kernel, by decide +kernel, by decide +kernel, by decide +kernel⟩, live_next⟩

theorem witness_SectionsStayNormalised : live.Normalised ∧ ∃ t, step live = .next t := by
  have h : ∀ b : Fin 16, (∀ c ∈ live.bands[b].coefs.baseSecs, c.a0 = 1) ∧ (∀ c ∈ live.bands[b].coefs.curSecs, c.a0 = 1) ∧
      ∀ c ∈ live.bands[b].coefs.sideSec.toList, c.a0 = 1 := by decide +kernel
  refine ⟨⟨fun b => ⟨(h b).1, (h b).2.1, fun c hc => (h b).2.2 c (by simpa using hc)⟩, ?_⟩, live_next⟩
  have : live.soloSec = none := by decide +kernel
  simp [this]

theorem witness_HistogramsStaySound : live.HistogramsSound ∧ ∃ t, step live = .next t := by
  refine ⟨fun b => ?_, live_next⟩
  have h : live.bands[b].hist = Hist.empty := by revert b; decide +kernel
  rw [h]
  constructor <;> decide +kernel

theorem witness_FactorsStaySound : live.FactorsSound ∧ ∃ t, step live = .next t := by
  have h : ∀ b : Fin 16, live.bands[b].det.t = 0 ∧ live.bands[b].coefs.tFrozen = 0 ∧
      live.bands[b].coefs.curSecs = live.bands[b].coefs.baseSecs := by decide +kernel
  refine ⟨fun b => ⟨?_, ?_, fun _ => ⟨(h b).1, (h b).2.2⟩⟩, live_next⟩
  · rw [(h b).1]; unfold Within; decide +kernel
  · rw [(h b).2.1]; unfold Within; decide +kernel

theorem witness_LatencyStaysCurrent : live.LatencyCurrent ∧ ∃ t, step live = .next t :=
  ⟨by unfold State.LatencyCurrent; decide +kernel, live_next⟩

theorem witness_CoefficientsStayCoherent :
    live.prepared = true ∧ live.Coherent ∧ ∃ t, step live = .next t ∧ t.prepared = true := by
  refine ⟨by decide +kernel, ⟨by decide +kernel, by decide +kernel⟩, ?_⟩
  have h : (match step live with
      | .next t => t.prepared
      | _ => false) = true := by decide +kernel
  obtain ⟨t, ht⟩ := live_next
  rw [ht] at h
  exact ⟨t, ht, h⟩

theorem witness_BuffersStaySized : live.SizedWhenPrepared ∧ live.prepared = true ∧ ∃ t, step live = .next t := by
  have hb : ∀ b : Fin 16, (live.bands[b].det.rms.ring.length = live.w ∧
      (live.bands[b].det.rms.pos < live.w ∨ live.w = 0 ∧ live.bands[b].det.rms.pos = 0)) ∧
      live.bands[b].fstate.s0.length = 8 ∧ live.bands[b].fstate.s1.length = 8 := by decide +kernel
  have hc : live.CorrSized := by
    intro g k; unfold RingAt; cases g <;> cases k <;> decide +kernel
  refine ⟨⟨hc, fun _ => ⟨by decide +kernel, by decide +kernel, ?_, by decide +kernel, ?_, by decide +kernel, ?_,
    fun b => ⟨(hb b).1, (hb b).2.1, (hb b).2.2⟩, hc⟩⟩, by decide +kernel, live_next⟩
  · unfold RingAt; decide +kernel
  · unfold RingAt; decide +kernel
  · intro m; unfold RingAt; cases m <;> decide +kernel

theorem witness_DisplayNotRead :
    (withBand live fun b => { b with disp := { b.disp with curT := 1 } }).hideDisplay = live.hideDisplay ∧
    (∃ t, step (withBand live fun b => { b with disp := { b.disp with curT := 1 } }) = .next t) ∧
    ∃ t, step live = .next t :=
  ⟨by decide +kernel, exists_next (by decide +kernel), live_next⟩

theorem witness_BilinearStable :
    (0 : Rat) < 1 ∧ 0 < (lp2 (1 / 40 : Rat) 1).cA0 ∧ 0 < (lp2 (1 / 40 : Rat) 1).cA1 ∧ 0 < (lp2 (1 / 40 : Rat) 1).cA2 := by decide +kernel

theorem witness_SectionCount : 1 ∈ legalOrders ∧ 16 ∈ legalOrders ∧ 2 ∈ legalOrders := by decide

theorem witness_KneeMap : (0 : Rat) < 1 / 100 ∧ (-5 : Rat) ≤ 5 := by decide +kernel

theorem witness_HistogramLaws :
    (((Hist.empty : Hist).push 0 1).bins.length = 80 ∧ (∀ x ∈ ((Hist.empty : Hist).push 0 1).bins, 0 ≤ x) ∧
      ((Hist.empty : Hist).push 0 1).total = ((Hist.empty : Hist).push 0 1).bins.sum) ∧
    0 < ((Hist.empty : Hist).push 0 1).total ∧ (0 : Rat) ≤ 7999 / 100 ∧ (7999 / 100 : Rat) < 80 ∧ ¬ 0 < (Hist.empty : Hist).total := by
  decide +kernel

/-- Two frames. -/
def msPair : Pair := ([1, 2], [3, -4])

theorem witness_MidSide :
    msPair.1.length = msPair.2.length ∧
    msPair.1[1]? = some (2 : Rat) ∧ msPair.2[1]? = some (-4 : Rat) := by decide +kernel

theorem witness_DelayMode :
    2 < (⟨[], [0, 0, 0], 2⟩ : CorrSlot).hist.length ∧ (⟨[], [0, 0, 0], 2⟩ : CorrSlot).cpos < 3 ∧
    0 < (⟨[], [0], 0⟩ : CorrSlot).hist.length := by decide +kernel

/-- A lookahead line of one frame. -/
def looking : State := { fresh with la := LaLine.zero 1 }

theorem witness_LookaheadDelay :
    fresh.la.buf.length = 0 ∧
    looking.la.pos < looking.la.buf.length ∧
    ((frontRun looking [⟨1, 2, 3, 4⟩, ⟨5, 6, 7, 8⟩]).1 = [⟨0, 0, 3, 4⟩, ⟨1, 2, 7, 8⟩]) := by decide +kernel

theorem witness_EffectOff :
    ({ fresh with cg := { fresh.cg with effectOn := false } } : State).cg.effectOn = false ∧
    (effStruct ({ fresh with cg := { fresh.cg with effectOn := false } } : State).cg).correcting = false := by decide +kernel

theorem witness_IdleTransparent :
    (∀ b : Fin 16, fresh.bands[b].comm.active = false) ∧ fresh.soloSec = none ∧ (effStruct fresh.cg).correcting = false ∧
    fresh.cg.sgcOn = false ∧ fresh.cg.trim = 0 ∧ fresh.again = 0 ∧ fresh.cg.phaseFlip = false := by decide +kernel

theorem witness_StateRests :
    fresh.bands[(0 : Fin 16)].comm.active = false ∧ fresh.bands[(0 : Fin 16)].comm.dynOn = false ∧
    (withBand fresh fun b => { b with comm := { b.comm with bypass := true } }).bands[(0 : Fin 16)].comm.bypass = true ∧
    effStruct { fresh.cg with struct := .linear } = .linear := by decide +kernel

theorem witness_DetectorInstant :
    ({ Band.reset with comm := { BandRegs.reset with attack := 0, release := 0 } } : Band).comm.attack = 0 ∧
    ({ Band.reset with comm := { BandRegs.reset with attack := 0, release := 0 } } : Band).comm.release = 0 := by
  decide +kernel

/-- A state over the reals with a write waiting. -/
noncomputable def liveReals : State ℝ :=
  { State.resetIn Config.reals with io := { Ports.idle with cmds := [⟨.ctrl, 0x1000050040C00000⟩] } }

theorem witness_EveryConfiguration :
    (∃ t, stepIn Config.reals liveReals = .next t) ∧ (State.resetIn Config.reals).NothingLost ∧ liveReals.NothingLost ∧
    liveReals.Normalised ∧ (State.resetIn Config.reals).LatencyCurrent Config.reals ∧
    liveReals.LatencyCurrent Config.reals := by
  have n : (State.resetIn Config.reals).NothingLost := by constructor <;> simp [State.resetIn, Band.reset] <;> rfl
  have l : (State.resetIn Config.reals).LatencyCurrent Config.reals := by
    have f : ⌊(2 : ℝ)⁻¹⌋ = 0 := by rw [Int.floor_eq_zero_iff]; constructor <;> norm_num
    simp [f, State.LatencyCurrent, State.latencyOf, State.resetIn, laFrames, Arith.roundNat, GlobalRegs.reset, effStruct,
      Structure.correcting, Config.reals, Config.ofArith, Arith.reals]
  refine ⟨⟨_, rfl⟩, n, ⟨n.classS, n.classG, n.classB, n.bands, n.globals⟩, ⟨fun b => ?_, ?_⟩, l, l⟩
  · simp only [liveReals, State.resetIn, Fin.getElem_fin, Vector.getElem_replicate]
    constructor <;> simp [Band.reset, Coefs.empty]
  · simp [liveReals, State.resetIn]


end Sys2Proof.Tests
end

section
/-! PROOFS. The preparation state (10_state.md R41): which commands write FS, MAXBLOCK, SUBLEN and PREPARED. -/

namespace Sys2Proof.Machine

/-! ### Commands -/

theorem exec_reset (s : State) : exec .reset s = .next s.resetCmd := rfl

/-- What each command can do, told by the command (30_encoding.md R104): NOP, RESET, PREPARE and PROCESS have a meaning of their
own; of the others a read answers a word and a write stores one. -/
theorem exec_cases_by_command {i : Instr} {s t : State} (h : exec i s = .next t) :
    i = .nop ∧ t = s ∨ i = .reset ∧ t = s.resetCmd ∨
    (∃ m f, i = .prepare m f ∧ execPrepare m f s = .next t) ∨ (∃ n, i = .process n ∧ execProcess n s = .next t) ∨
    (∃ r, t = s.respond r) ∨ (∃ r b d, t = s.writeBand r b d) ∨ ∃ r d, t = s.writeGlobal r d := by
  cases i
  case nop => exact .inl ⟨rfl, (Host.Outcome.next.inj h).symm⟩
  case reset => exact .inr (.inl ⟨rfl, (Host.Outcome.next.inj h).symm⟩)
  case prepare m f => exact .inr (.inr (.inl ⟨m, f, rfl, h⟩))
  case process n => exact .inr (.inr (.inr (.inl ⟨n, rfl, h⟩)))
  all_goals
    have e := (Host.Outcome.next.inj h).symm
    refine .inr (.inr (.inr (.inr ?_)))
    first
      | exact .inl ⟨_, e⟩
      | exact .inr (.inl ⟨_, _, _, e⟩)
      | exact .inr (.inr ⟨_, _, e⟩)

/-! ### The preparation state -/

/-- `t` has the preparation state of `s`: PREPARED, FS, MAXBLOCK and SUBLEN (R41). -/
def State.PreparedAs (s t : State) : Prop :=
  t.prepared = s.prepared ∧ t.fs = s.fs ∧ t.maxblock = s.maxblock ∧ t.sublen = s.sublen

theorem State.PreparedAs.trans {s t u : State} (h : s.PreparedAs t) (k : t.PreparedAs u) : s.PreparedAs u := by
  obtain ⟨hp, hf, hm, hl⟩ := h
  obtain ⟨kp, kf, km, kl⟩ := k
  exact ⟨kp.trans hp, kf.trans hf, km.trans hm, kl.trans hl⟩

theorem State.respond_preparedAs (s : State) (r : DataWord) : s.PreparedAs (s.respond r) := by simp [State.PreparedAs]

theorem State.writeBand_preparedAs (s : State) (r : BandReg) (b : Nat) (d : DataWord) :
    s.PreparedAs (s.writeBand r b d) := by simp [State.PreparedAs]

theorem State.writeGlobal_preparedAs (s : State) (r : GlobalReg) (d : DataWord) :
    s.PreparedAs (s.writeGlobal r d) := by simp [State.PreparedAs]

theorem State.consume_preparedAs (s : State) (n : Nat) : s.PreparedAs (s.consume n) := by simp [State.PreparedAs]

theorem State.emit_preparedAs (s : State) (out : List (Rat × Rat)) : s.PreparedAs (s.emit out) := by
  simp [State.PreparedAs]

theorem State.commit_preparedAs (s : State) : s.PreparedAs s.commit := by
  obtain ⟨-, hp, hf, hm, hl, -⟩ := s.commit_frame
  exact ⟨hp, hf, hm, hl⟩

theorem State.SignalOf.preparedAs {s t : State} (h : s.SignalOf t) : s.PreparedAs t := by
  obtain ⟨-, -, -, -, -, -, hp, hf, hm, hl, -⟩ := h.frame
  exact ⟨hp, hf, hm, hl⟩

/-- PROCESS consumes frames, commits (R331) and runs the signal path; before PREPARE it passes the frames on (R332). None of
these writes the preparation state. -/
theorem execProcess_preparedAs {n : Nat} {s t : State} (h : execProcess n s = .next t) : s.PreparedAs t := by
  cases hp : s.prepared with
  | true =>
    obtain ⟨fr, -, rfl⟩ := execProcess_prepared hp h
    exact ((s.consume_preparedAs n).trans (s.consume n).commit_preparedAs).trans (processFrames_signal _ fr).preparedAs
  | false =>
    obtain ⟨fr, -, rfl⟩ := execProcess_unprepared hp h
    exact (s.consume_preparedAs n).trans ((s.consume n).emit_preparedAs _)

/-- R41: a command other than PREPARE and RESET leaves the preparation state. -/
theorem exec_preparedAs {i : Instr} {s t : State} (hr : i ≠ .reset) (hp : ∀ m f, i ≠ .prepare m f)
    (h : exec i s = .next t) : s.PreparedAs t := by
  obtain ⟨-, rfl⟩ | ⟨e, -⟩ | ⟨m, f, e, -⟩ | ⟨n, -, hn⟩ | ⟨r, rfl⟩ | ⟨r, b, d, rfl⟩ | ⟨r, d, rfl⟩ :=
    exec_cases_by_command h
  · exact ⟨rfl, rfl, rfl, rfl⟩
  · exact absurd e hr
  · exact absurd e (hp m f)
  · exact execProcess_preparedAs hn
  · exact s.respond_preparedAs r
  · exact s.writeBand_preparedAs r b d
  · exact s.writeGlobal_preparedAs r d

/-- R41, R107: RESET clears the preparation state. -/
theorem State.resetCmd_unprepared (s : State) :
    s.resetCmd.prepared = false ∧ s.resetCmd.fs = 0 ∧ s.resetCmd.maxblock = 0 ∧ s.resetCmd.sublen = 0 := by
  simp [State.resetIn]

/-- Settles O36: by cases over the commands; PROCESS is the one whose meaning runs through the commit and the signal path. -/
theorem preparationState : Obligations.PreparationState := by
  refine ⟨fun i s t hr hp h => exec_preparedAs hr hp h, fun s t h => ?_⟩
  rw [exec_reset] at h
  cases h
  exact s.resetCmd_unprepared

end Sys2Proof.Machine
end

section
/-! PROOFS. The legal orders (40_register_commands.md R112): the value of `legal_order` on each of its ranges, and its set of
results. -/

namespace Sys2Proof.Machine

/-! ### One equation for each range -/

theorem legalOrder_of_le_one {u : Nat} (h : u ≤ 1) : legalOrder u = 1 := if_pos h

theorem legalOrder_of_sixteen_le {u : Nat} (h : 16 ≤ u) : legalOrder u = 16 := by
  rw [legalOrder, if_neg (by omega), if_pos h]

theorem legalOrder_of_even {u : Nat} (hl : 1 < u) (hu : u < 16) (h : u % 2 = 0) : legalOrder u = u := by
  rw [legalOrder, if_neg (by omega), if_neg (by omega), if_pos h]

theorem legalOrder_of_odd {u : Nat} (hl : 1 < u) (hu : u < 16) (h : u % 2 = 1) : legalOrder u = u - 1 := by
  rw [legalOrder, if_neg (by omega), if_neg (by omega), if_neg (by omega)]

/-! ### The set of results -/

/-- A legal order is 1 or an even number from 2 to 16. -/
theorem mem_legalOrders {v : Nat} : v ∈ legalOrders ↔ v = 1 ∨ 1 < v ∧ v ≤ 16 ∧ v % 2 = 0 := by
  simp only [legalOrders, List.mem_cons, List.not_mem_nil, or_false]
  omega

/-- Every result is legal: below 2 it is 1, from 16 up it is 16, and between them it is the even one of u and u - 1. -/
theorem legalOrder_mem (u : Nat) : legalOrder u ∈ legalOrders := by
  rw [mem_legalOrders]
  rcases Nat.lt_or_ge 1 u with hl | hl
  · rcases Nat.lt_or_ge u 16 with hu | hu
    · rcases Nat.mod_two_eq_zero_or_one u with h | h
      · rw [legalOrder_of_even hl hu h]
        omega
      · rw [legalOrder_of_odd hl hu h]
        omega
    · simp [legalOrder_of_sixteen_le hu]
  · exact .inl (legalOrder_of_le_one hl)

/-- `legal_order` keeps a legal order. -/
theorem legalOrder_of_mem {v : Nat} (h : v ∈ legalOrders) : legalOrder v = v := by
  obtain rfl | ⟨hl, hu, he⟩ := mem_legalOrders.1 h
  · exact legalOrder_of_le_one le_rfl
  · rcases hu.lt_or_eq with hu | rfl
    · exact legalOrder_of_even hl hu he
    · exact legalOrder_of_sixteen_le le_rfl

theorem exists_legalOrder_eq_iff {v : Nat} : (∃ u, legalOrder u = v) ↔ v ∈ legalOrders :=
  ⟨fun ⟨u, h⟩ => h ▸ legalOrder_mem u, fun h => ⟨v, legalOrder_of_mem h⟩⟩

/-- Settles O9: each clause is the equation of its range, and the results are the legal orders because each result is legal and
each legal order is its own result. The name `legalOrder` belongs to the model's function. -/
theorem legalOrder_spec : Obligations.LegalOrder :=
  ⟨fun _ => ⟨legalOrder_of_le_one, legalOrder_of_sixteen_le, legalOrder_of_even, legalOrder_of_odd⟩,
    fun _ => exists_legalOrder_eq_iff⟩

end Sys2Proof.Machine
end

section
/-! PROOFS. NOP (40_register_commands.md R106): its word and its meaning. -/

namespace Sys2Proof.Machine

theorem encode_nop : encode .nop = 0x0000000000000000 := by decide

theorem exec_nop (s : State) : exec .nop s = .next s := rfl

/-- Settles O12: the all-zero word is NOP's encoding, so it decodes to NOP by the round trip; NOP's meaning is to go on with the
same state. -/
theorem nopChangesNothing : Obligations.NopChangesNothing :=
  ⟨encode_nop, encode_nop ▸ Laws.DecodeEncode.nop rfl, exec_nop⟩

end Sys2Proof.Machine
end

section
/-! PROOFS. The sections of a design (41_coefficient_designer.md R205): one for each analog spec, as many as NSEC says, each of
them a0-normalised. -/

namespace Sys2Proof.Machine

/-! ### The value of NSEC -/

/-- A peak's effective order is 2 whatever its order (R182). -/
theorem nsec_peak (order : Nat) : nsec .peak order = 1 := by
  simp [nsec, effOrder]

/-- NSEC of a type that keeps its order. -/
theorem nsec_of_effOrder_eq {type : FType} {order : Nat} (h : effOrder type order = order) :
    nsec type order = if order = 1 then 1 else order / 2 := by
  rw [nsec, h]

/-- NSEC of a type that raises order 1 to 2. -/
theorem nsec_of_effOrder_raised {type : FType} {order : Nat} (h : effOrder type order = if order = 1 then 2 else order)
    (ho : order ∈ legalOrders) : nsec type order = max 1 (order / 2) := by
  obtain rfl | ⟨hl, -, -⟩ := mem_legalOrders.1 ho
  · rw [nsec, h]
    rfl
  · rw [nsec, h, if_neg hl.ne', if_neg hl.ne']
    omega

/-- R182: the effective order of a legal order is a legal order. -/
theorem effOrder_mem (type : FType) {order : Nat} (h : order ∈ legalOrders) : effOrder type order ∈ legalOrders := by
  have two : 2 ∈ legalOrders := by decide
  cases type
  case peak => exact two
  case notch | bandPass | bandShelf =>
    simp only [effOrder]
    split
    · exact two
    · exact h
  all_goals exact h

theorem nsec_bounds (type : FType) {order : Nat} (h : order ∈ legalOrders) : 1 ≤ nsec type order ∧ nsec type order ≤ 8 := by
  obtain he | ⟨hl, hu, -⟩ := mem_legalOrders.1 (effOrder_mem type h)
  · simp [nsec, he]
  · rw [nsec, if_neg hl.ne']
    omega

section

set_option linter.unusedSectionVars false

variable {V : Type} [Zero V] [One V] [NatCast V] [Add V] [Sub V] [Neg V] [Mul V] [Div V]
  [LT V] [LE V] [BEq V] [Min V] [Max V] [DecidableLT V] [DecidableLE V]

/-! ### The number of specs -/

@[simp] theorem length_lsgPairs (m : Nat) (w g : V) (C : Config V) : (lsgPairs m w g C).length = m / 2 := by
  rcases Nat.mod_two_eq_zero_or_one m with he | ho
  · simp [lsgPairs, he]
  · simp only [lsgPairs, ho, one_ne_zero, if_false, List.length_map, List.length_range]
    omega

/-- Each of the two shelves gives m / 2 specs, and an odd m one more for the pair of first-order ends (R203, R204). -/
theorem length_bandShelf (m : Nat) (w0 g q : V) (C : Config V) : (bandShelf m w0 g q C).length = m := by
  rcases Nat.mod_two_eq_zero_or_one m with he | ho
  · simp only [bandShelf, he, if_true, List.length_append, List.length_map, length_lsgPairs, List.length_nil]
    omega
  · simp only [bandShelf, ho, one_ne_zero, if_false, List.length_append, List.length_map, length_lsgPairs,
      List.length_singleton]
    omega

theorem length_specsFirst (type : FType) (g w0 : V) (C : Config V) : (specsFirst type g w0 C).length = 1 := by
  cases type <;> rfl

/-- Every type but the peak has n / 2 specs: one for each k below n / 2, and a band shelf by its own count. -/
theorem length_specsHigher {type : FType} (h : type ≠ .peak) (n : Nat) (gdb q w0 : V) (C : Config V) :
    (specsHigher type n gdb q w0 C).length = n / 2 := by
  cases type
  case peak => exact absurd rfl h
  case bandShelf => exact length_bandShelf ..
  all_goals exact (List.length_map _).trans List.length_range

/-- R205: a design has NSEC specs, at every order. -/
theorem length_specs (type : FType) (f gdb q : V) (order fs : Nat) (C : Config V) :
    (specs type f gdb q order fs C).length = nsec type order := by
  by_cases h : effOrder type order = 1
  · rw [specs, if_pos h, nsec, if_pos h, length_specsFirst]
  · rw [specs, if_neg h]
    by_cases hp : type = .peak
    · subst hp
      exact (nsec_peak order).symm
    · rw [nsec, if_neg h, length_specsHigher hp]

theorem length_design (type : FType) (f gdb q : V) (order fs : Nat) (C : Config V) :
    (design type f gdb q order fs C).length = nsec type order :=
  (List.length_map _).trans (length_specs ..)

/-! ### Normalisation -/

/-- R188: each form of spec is mapped to a section with a0 = 1. -/
theorem blt_a0 (x : Spec V) (C : Config V) : (blt x C).a0 = 1 := by
  cases x <;> rfl

theorem design_a0 {type : FType} {f gdb q : V} {order fs : Nat} {C : Config V} {c : Section V}
    (h : c ∈ design type f gdb q order fs C) : c.a0 = 1 := by
  obtain ⟨x, -, rfl⟩ := List.mem_map.1 h
  exact blt_a0 x C

end

/-! ### The number of sections -/

/-- Settles O50: the length of a design is NSEC, whose value and bounds follow from the effective order; every section comes out
of the bilinear map, which normalises. -/
theorem sectionCount : Obligations.SectionCount := by
  intro type f gdb q order fs ho
  rw [length_design]
  obtain ⟨one_le, le_eight⟩ := nsec_bounds type ho
  refine ⟨?_, one_le, le_eight, fun c hc => design_a0 hc⟩
  cases type
  case peak => exact nsec_peak order
  case notch | bandPass | bandShelf => exact nsec_of_effOrder_raised rfl ho
  all_goals exact nsec_of_effOrder_eq rfl

end Sys2Proof.Machine
end

section
/-! PROOFS. `clamp` (00_scope.md R11) on the rationals: one equation, and what follows for order and distance. -/

namespace Sys2Proof.Arith

theorem clamp_eq_max_min (v : Rat) {lo hi : Rat} (h : lo ≤ hi) : clamp v lo hi = max lo (min v hi) := by
  unfold clamp
  split
  case isTrue below => rw [min_eq_left (below.le.trans h), max_eq_left below.le]
  case isFalse notBelow =>
    have lo_le : lo ≤ v := not_lt.1 notBelow
    split
    case isTrue above => rw [min_eq_right above.le, max_eq_right h]
    case isFalse notAbove => rw [min_eq_left (not_lt.1 notAbove), max_eq_right lo_le]

theorem clamp_mem (v : Rat) {lo hi : Rat} (h : lo ≤ hi) : lo ≤ clamp v lo hi ∧ clamp v lo hi ≤ hi := by
  rw [clamp_eq_max_min v h]
  exact ⟨le_max_left _ _, max_le h (min_le_right _ _)⟩

theorem clamp_eq_self {v lo hi : Rat} (hlo : lo ≤ v) (hhi : v ≤ hi) : clamp v lo hi = v := by
  rw [clamp_eq_max_min v (hlo.trans hhi), min_eq_left hhi, max_eq_right hlo]

theorem clamp_mono {v v' lo hi : Rat} (h : lo ≤ hi) (hv : v ≤ v') : clamp v lo hi ≤ clamp v' lo hi := by
  rw [clamp_eq_max_min v h, clamp_eq_max_min v' h]
  exact max_le_max_left lo (min_le_min_right hi hv)

theorem clamp_sub_le {v v' lo hi : Rat} (h : lo ≤ hi) (hv : v ≤ v') : clamp v' lo hi - clamp v lo hi ≤ v' - v := by
  rw [clamp_eq_max_min v h, clamp_eq_max_min v' h, sub_le_iff_le_add]
  refine max_le ?_ ?_
  · linarith [le_max_left lo (min v hi)]
  · have shifted : min v' hi ≤ (v' - v) + min v hi := by
      rw [← min_add_add_left]
      exact le_min (by linarith [min_le_left v' hi]) (by linarith [min_le_right v' hi])
    linarith [le_max_right lo (min v hi)]

theorem clamp_eq_lo_iff {v lo hi : Rat} (h : lo < hi) : clamp v lo hi = lo ↔ v ≤ lo := by
  rw [clamp_eq_max_min v h.le, max_eq_left_iff, min_le_iff, or_iff_left h.not_ge]

theorem clamp_eq_hi_iff {v lo hi : Rat} (h : lo < hi) : clamp v lo hi = hi ↔ hi ≤ v := by
  rw [clamp_eq_max_min v h.le]
  constructor
  · intro hc
    by_contra hv
    exact (max_lt h (min_lt_iff.2 (.inl (not_le.1 hv)))).ne hc
  · intro hv
    rw [min_eq_right hv, max_eq_right h.le]

end Sys2Proof.Arith
end

section
/-! PROOFS. The knee map (43_detector_histogram.md R262, R263): a cubic of the clamped position in the knee. -/

namespace Sys2Proof.Machine

open Arith

/-! ### The cubic -/

/-- The cubic of R262 in the position `u` inside the knee. -/
def kneeCubic (u : Rat) : Rat := u * u * (3 - 2 * u)

/-- R262: KNEE is the cubic of the clamped position. -/
theorem knee_eq (x w : Rat) : knee x w = kneeCubic (clamp ((x + w / 2) / w) 0 1) := rfl

theorem one_sub_kneeCubic (u : Rat) : 1 - kneeCubic u = (1 - u) * (1 - u) * (1 + 2 * u) := by
  unfold kneeCubic
  ring

theorem kneeCubic_mem {u : Rat} (h0 : 0 ≤ u) (h1 : u ≤ 1) : 0 ≤ kneeCubic u ∧ kneeCubic u ≤ 1 := by
  have above : 0 ≤ kneeCubic u := mul_nonneg (mul_self_nonneg u) (by linarith)
  have below : 0 ≤ 1 - kneeCubic u := one_sub_kneeCubic u ▸ mul_nonneg (mul_self_nonneg _) (by linarith)
  exact ⟨above, sub_nonneg.1 below⟩

theorem kneeCubic_eq_zero_iff {u : Rat} (h1 : u ≤ 1) : kneeCubic u = 0 ↔ u = 0 := by
  have factor : (3 - 2 * u) ≠ 0 := by linarith
  simp [kneeCubic, factor]

theorem kneeCubic_eq_one_iff {u : Rat} (h0 : 0 ≤ u) : kneeCubic u = 1 ↔ u = 1 := by
  have factor : (1 + 2 * u) ≠ 0 := by linarith
  rw [eq_comm, ← sub_eq_zero, one_sub_kneeCubic]
  simp [factor, sub_eq_zero, eq_comm (a := u)]

theorem kneeCubic_sub (u u' : Rat) :
    kneeCubic u' - kneeCubic u = (u' - u) * (3 * (u + u') - 2 * (u * u + u * u' + u' * u')) := by
  unfold kneeCubic
  ring

theorem kneeCubic_mono {u u' : Rat} (h0 : 0 ≤ u) (h : u ≤ u') (h1 : u' ≤ 1) : kneeCubic u ≤ kneeCubic u' := by
  have slope : 0 ≤ 3 * (u + u') - 2 * (u * u + u * u' + u' * u') := by nlinarith
  exact sub_nonneg.1 (kneeCubic_sub u u' ▸ mul_nonneg (sub_nonneg.2 h) slope)

/-- The cubic is steepest in the middle of the knee, with slope 3 / 2. -/
theorem kneeCubic_sub_le {u u' : Rat} (h : u ≤ u') : kneeCubic u' - kneeCubic u ≤ 3 / 2 * (u' - u) := by
  have slope : 3 * (u + u') - 2 * (u * u + u * u' + u' * u') ≤ 3 / 2 := by
    nlinarith [sq_nonneg (u + u' - 1), sq_nonneg (u - 1 / 2), sq_nonneg (u' - 1 / 2)]
  calc kneeCubic u' - kneeCubic u
      = (u' - u) * (3 * (u + u') - 2 * (u * u + u * u' + u' * u')) := kneeCubic_sub u u'
    _ ≤ (u' - u) * (3 / 2) := mul_le_mul_of_nonneg_left slope (sub_nonneg.2 h)
    _ = 3 / 2 * (u' - u) := mul_comm _ _

/-! ### The knee map -/

theorem knee_mem (x w : Rat) : 0 ≤ knee x w ∧ knee x w ≤ 1 := by
  obtain ⟨h0, h1⟩ := clamp_mem ((x + w / 2) / w) zero_le_one
  exact kneeCubic_mem h0 h1

section

variable {w : Rat} (hw : 0 < w)
include hw

theorem knee_eq_zero_iff (x : Rat) : knee x w = 0 ↔ x ≤ -w / 2 := by
  obtain ⟨-, h1⟩ := clamp_mem ((x + w / 2) / w) zero_le_one
  rw [knee_eq, kneeCubic_eq_zero_iff h1, clamp_eq_lo_iff zero_lt_one, div_le_iff₀ hw]
  constructor <;> intro h <;> linarith

theorem knee_eq_one_iff (x : Rat) : knee x w = 1 ↔ w / 2 ≤ x := by
  obtain ⟨h0, -⟩ := clamp_mem ((x + w / 2) / w) zero_le_one
  rw [knee_eq, kneeCubic_eq_one_iff h0, clamp_eq_hi_iff zero_lt_one, le_div_iff₀ hw]
  constructor <;> intro h <;> linarith

theorem kneePosition_mono {x y : Rat} (h : x ≤ y) : (x + w / 2) / w ≤ (y + w / 2) / w :=
  div_le_div_of_nonneg_right (by linarith) hw.le

theorem knee_mono {x y : Rat} (h : x ≤ y) : knee x w ≤ knee y w := by
  obtain ⟨h0, -⟩ := clamp_mem ((x + w / 2) / w) zero_le_one
  obtain ⟨-, h1⟩ := clamp_mem ((y + w / 2) / w) zero_le_one
  exact kneeCubic_mono h0 (clamp_mono zero_le_one (kneePosition_mono hw h)) h1

/-- The knee's Lipschitz bound: the cubic's slope over the width. -/
theorem knee_sub_le {x y : Rat} (h : x ≤ y) : knee y w - knee x w ≤ 3 / (2 * w) * (y - x) := by
  have position := kneePosition_mono hw h
  calc knee y w - knee x w
      ≤ 3 / 2 * (clamp ((y + w / 2) / w) 0 1 - clamp ((x + w / 2) / w) 0 1) :=
        kneeCubic_sub_le (clamp_mono zero_le_one position)
    _ ≤ 3 / 2 * ((y + w / 2) / w - (x + w / 2) / w) :=
        mul_le_mul_of_nonneg_left (clamp_sub_le zero_le_one position) (by norm_num)
    _ = 3 / (2 * w) * (y - x) := by
        field_simp
        ring

theorem knee_of_mem {x : Rat} (hlo : -w / 2 ≤ x) (hhi : x ≤ w / 2) : knee x w = kneeCubic ((x + w / 2) / w) := by
  have h0 : 0 ≤ (x + w / 2) / w := div_nonneg (by linarith) hw.le
  have h1 : (x + w / 2) / w ≤ 1 := (div_le_one hw).2 (by linarith)
  rw [knee_eq, clamp_eq_self h0 h1]

theorem knee_zero : knee 0 w = 1 / 2 := by
  have middle : (0 + w / 2) / w = 1 / 2 := by
    field_simp
    ring
  rw [knee_of_mem hw (by linarith) (by linarith), middle]
  norm_num [kneeCubic]

end

/-- Settles O51: the clamp and the cubic are each monotone, Lipschitz and at their ends exactly where R263 says, and so is their
composition; the values inside the knee are the cubic's. -/
theorem kneeMap : Obligations.KneeMap := by
  intro w hw
  have width : (0 : Rat) < 6 := by norm_num
  refine ⟨fun x => ⟨(knee_mem x w).1, (knee_mem x w).2, knee_eq_zero_iff hw x, knee_eq_one_iff hw x⟩,
    fun x y h => ⟨knee_mono hw h, knee_sub_le hw h⟩, knee_zero hw, ?_, ?_, knee_zero width, ?_, ?_⟩
  · exact (knee_eq_zero_iff width _).2 (by norm_num)
  · rw [knee_of_mem width (by norm_num) (by norm_num)]
    norm_num [kneeCubic]
  · rw [knee_of_mem width (by norm_num) (by norm_num)]
    norm_num [kneeCubic]
  · exact (knee_eq_one_iff width _).2 (by norm_num)

end Sys2Proof.Machine
end

section
/-! PROOFS. The histogram (43_detector_histogram.md R270 to R273): what a push adds, where the percentile walk stops, and the
histogram with all its weight in one bin. -/

namespace Sys2Proof.Machine

open Arith

/-! ### The bin of a value -/

theorem histBin_lt (v : Rat) : histBin v < 80 :=
  (Nat.min_le_left _ _).trans_lt (by decide)

/-- R270: a value on the axis goes into the bin of its floor. -/
theorem histBin_eq_floor {v : Rat} (h0 : 0 ≤ v) (h80 : v < 80) : (histBin v : Rat) = v.floor := by
  have nonneg : 0 ≤ v.floor := Rat.le_floor_iff.2 (by simpa using h0)
  have below : v.floor < 80 := Rat.floor_lt_iff.2 (by simpa using h80)
  have bin : histBin v = v.floor.toNat := by
    rw [histBin, show clamp v 0 Config.histMax = v from clamp_eq_self h0 h80.le, Config.standard_floor]
    exact Nat.min_eq_right (by simp only [Config.histBins]; omega)
  rw [bin, ← Int.cast_natCast, Int.toNat_of_nonneg nonneg]

/-! ### A push -/

theorem sum_modify_add_one (l : List Rat) {i : Nat} (h : i < l.length) : (l.modify i (· + 1)).sum = l.sum + 1 := by
  obtain ⟨before, x, after, rfl, -, modified⟩ := List.exists_of_modify (· + 1) h
  rw [modified]
  simp only [List.sum_append, List.sum_cons]
  ring

theorem nonneg_modify_add_one {l : List Rat} (hl : ∀ x ∈ l, 0 ≤ x) (i : Nat) : ∀ x ∈ l.modify i (· + 1), 0 ≤ x := by
  intro x hx
  obtain ⟨j, hj, rfl⟩ := List.mem_iff_getElem.1 hx
  rw [List.length_modify] at hj
  have old : 0 ≤ l[j] := hl _ (List.getElem_mem hj)
  rw [List.getElem_modify]
  split
  · exact add_nonneg old zero_le_one
  · exact old

theorem Hist.empty_sound : (Hist.empty : Hist).Sound where
  length := List.length_replicate
  nonneg _ hx := (List.eq_of_mem_replicate hx).ge
  total := by simp [Hist.empty]

/-- Laws (a) and (b) of R273: a push decays every bin and the total alike, then adds 1 to one bin and to the total. -/
theorem Hist.Sound.push {h : Hist} (hs : h.Sound) (v : Rat) {d : Rat} (hd : 0 ≤ d) : (h.push v d).Sound where
  length := by rw [Hist.push, List.length_modify, List.length_map, hs.length]
  nonneg := by
    refine nonneg_modify_add_one (fun x hx => ?_) _
    obtain ⟨y, hy, rfl⟩ := List.mem_map.1 hx
    exact mul_nonneg (hs.nonneg y hy) hd
  total := by
    have inside : histBin v < (h.bins.map (· * d)).length := by
      rw [List.length_map, hs.length]
      exact histBin_lt v
    rw [Hist.push, sum_modify_add_one _ inside, List.sum_map_mul_right, List.map_id', hs.total]

/-! ### The percentile walk -/

theorem pctWalk_cons_of_lt {target c x : Rat} (h : c + x < target) (i : Nat) (xs : List Rat) :
    pctWalk target i c (x :: xs) = pctWalk target (i + 1) (c + x) xs :=
  if_neg h.not_ge

/-- The walk that stops in a bin answers the bin plus the fraction of its weight that is needed, which an empty bin has none
of. -/
theorem pctWalk_cons_of_le {target c x : Rat} (hx : 0 ≤ x) (h : target ≤ c + x) (i : Nat) (xs : List Rat) :
    pctWalk target i c (x :: xs) = i + (target - c) / x := by
  rw [pctWalk, if_pos h]
  split
  case isTrue empty => rw [le_antisymm empty hx, div_zero, add_zero]
  case isFalse => rfl

/-- The fraction of a bin's weight lies in [0, 1]. -/
theorem binFraction_mem {target c x : Rat} (hx : 0 ≤ x) (hc : c ≤ target) (h : target ≤ c + x) :
    0 ≤ (target - c) / x ∧ (target - c) / x ≤ 1 :=
  ⟨div_nonneg (by linarith) hx, div_le_one_of_le₀ (by linarith) hx⟩

/-- From bin `i` the walk answers a value between `i` and the end of the axis. -/
theorem pctWalk_mem {target : Rat} {xs : List Rat} {i : Nat} {c : Rat} (hxs : ∀ x ∈ xs, 0 ≤ x) (hi : i + xs.length = 80)
    (hc : c ≤ target) : (i : Rat) ≤ pctWalk target i c xs ∧ pctWalk target i c xs ≤ 80 := by
  induction xs generalizing i c with
  | nil =>
    obtain rfl : i = 80 := hi
    exact ⟨le_rfl, le_rfl⟩
  | cons x xs ih =>
    obtain ⟨hx, htail⟩ := List.forall_mem_cons.1 hxs
    rw [List.length_cons] at hi
    have next : (i : Rat) + 1 ≤ 80 := by exact_mod_cast (by omega : i + 1 ≤ 80)
    obtain stop | go := le_or_gt target (c + x)
    · rw [pctWalk_cons_of_le hx stop]
      obtain ⟨h0, h1⟩ := binFraction_mem hx hc stop
      constructor <;> linarith
    · rw [pctWalk_cons_of_lt go]
      obtain ⟨lower, upper⟩ := ih (i := i + 1) htail (by omega) go.le
      push_cast at lower
      exact ⟨by linarith, upper⟩

/-- Law (c) of R273 for the walk: with a greater target it stops in the same bin, at no smaller fraction, or in a later bin. -/
theorem pctWalk_mono {a b : Rat} (hab : a ≤ b) {xs : List Rat} {i : Nat} {c : Rat} (hxs : ∀ x ∈ xs, 0 ≤ x)
    (hi : i + xs.length = 80) (hc : c ≤ a) : pctWalk a i c xs ≤ pctWalk b i c xs := by
  induction xs generalizing i c with
  | nil => exact le_rfl
  | cons x xs ih =>
    obtain ⟨hx, htail⟩ := List.forall_mem_cons.1 hxs
    rw [List.length_cons] at hi
    obtain stopB | goB := le_or_gt b (c + x)
    · rw [pctWalk_cons_of_le hx (hab.trans stopB), pctWalk_cons_of_le hx stopB]
      have fraction : (a - c) / x ≤ (b - c) / x := div_le_div_of_nonneg_right (by linarith) hx
      linarith
    rw [pctWalk_cons_of_lt goB]
    obtain stopA | goA := le_or_gt a (c + x)
    · obtain ⟨later, -⟩ := pctWalk_mem (i := i + 1) htail (by omega) goB.le
      obtain ⟨-, fraction⟩ := binFraction_mem hx hc stopA
      rw [pctWalk_cons_of_le hx stopA]
      push_cast at later
      linarith
    · rw [pctWalk_cons_of_lt goA]
      exact ih htail (by omega) goA.le

/-! ### Percentiles -/

theorem Hist.pct_of_pos {h : Hist} (ht : 0 < h.total) (p : Rat) :
    h.pct p = pctWalk (clamp p 0 1 * h.total) 0 0 h.bins :=
  if_pos ht

theorem Hist.pct_of_not_pos {h : Hist} (ht : ¬ 0 < h.total) (p : Rat) : h.pct p = 80 :=
  if_neg ht

section

variable {h : Hist} (hs : h.Sound) (ht : 0 < h.total)
include hs ht

theorem Hist.Sound.pct_mem (p : Rat) : 0 ≤ h.pct p ∧ h.pct p ≤ 80 := by
  have target : 0 ≤ clamp p 0 1 * h.total := mul_nonneg (clamp_mem p zero_le_one).1 ht.le
  rw [Hist.pct_of_pos ht]
  exact_mod_cast pctWalk_mem hs.nonneg (by rw [hs.length]) target

theorem Hist.Sound.pct_mono {p p' : Rat} (hp : p ≤ p') : h.pct p ≤ h.pct p' := by
  rw [Hist.pct_of_pos ht, Hist.pct_of_pos ht]
  refine pctWalk_mono ?_ hs.nonneg (by rw [hs.length]) (mul_nonneg (clamp_mem p zero_le_one).1 ht.le)
  exact mul_le_mul_of_nonneg_right (clamp_mono zero_le_one hp) ht.le

/-- Law (d) of R273: at p = 0 the walk stops in the first bin, before any of its weight. -/
theorem Hist.Sound.pct_zero : h.pct 0 = 0 := by
  obtain ⟨x, xs, bins⟩ : ∃ x xs, h.bins = x :: xs := List.exists_cons_of_length_eq_add_one hs.length
  have hx : 0 ≤ x := hs.nonneg x (bins ▸ List.mem_cons_self)
  rw [Hist.pct_of_pos ht, clamp_eq_self le_rfl zero_le_one, bins, pctWalk_cons_of_le hx (by linarith)]
  simp

end

/-! ### All the weight in one bin -/

/-- The histogram with weight `t` in bin `j` and none elsewhere. -/
def Hist.single (j : Nat) (t : Rat) : Hist := ⟨(List.replicate 80 0).set j t, t⟩

theorem Hist.single_zero (j : Nat) : Hist.single j 0 = Hist.empty :=
  congrArg (Hist.mk · 0) List.set_replicate_self

theorem Hist.push_single (v d t : Rat) :
    (Hist.single (histBin v) t).push v d = Hist.single (histBin v) (t * d + 1) := by
  simp [Hist.single, Hist.push, List.map_set, List.modify_eq_set, histBin_lt]

/-- Pushes of one value into an empty histogram leave all the weight in its bin. -/
theorem Hist.iterate_push_empty (v : Rat) {d : Rat} (hd : 0 ≤ d) (k : Nat) :
    ∃ t, 0 ≤ t ∧ (fun h => Hist.push h v d)^[k] Hist.empty = Hist.single (histBin v) t := by
  induction k with
  | zero => exact ⟨0, le_rfl, (Hist.single_zero _).symm⟩
  | succ k ih =>
    obtain ⟨t, ht, iterated⟩ := ih
    refine ⟨t * d + 1, by positivity, ?_⟩
    rw [Function.iterate_succ_apply', iterated, Hist.push_single]

/-- The walk passes the empty bins and stops in bin `j`, the only one with weight. -/
theorem pctWalk_single {target t : Rat} (h0 : 0 < target) (ht : target ≤ t) {n j : Nat} (hj : j < n) (i : Nat) :
    pctWalk target i 0 ((List.replicate n 0).set j t) = i + j + target / t := by
  induction j generalizing n i with
  | zero =>
    obtain ⟨n, rfl⟩ := Nat.exists_eq_succ_of_ne_zero (Nat.ne_zero_of_lt hj)
    rw [List.replicate_succ, List.set_cons_zero, pctWalk_cons_of_le (h0.le.trans ht) (by linarith)]
    simp
  | succ j ih =>
    obtain ⟨n, rfl⟩ := Nat.exists_eq_succ_of_ne_zero (Nat.ne_zero_of_lt hj)
    rw [List.replicate_succ, List.set_cons_succ, pctWalk_cons_of_lt (by linarith), add_zero, ih (by omega)]
    push_cast
    ring

theorem Hist.pct_single {j : Nat} {t p : Rat} (hj : j < 80) (ht : 0 < t) (h0 : 0 < p) (h1 : p ≤ 1) :
    (Hist.single j t).pct p = j + p := by
  have walked := pctWalk_single (mul_pos h0 ht) (mul_le_of_le_one_left ht.le h1) hj 0
  rw [Hist.pct_of_pos (h := Hist.single j t) ht, clamp_eq_self h0.le h1]
  rw [mul_div_cancel_right₀ p ht.ne', Nat.cast_zero, zero_add] at walked
  exact walked

/-- Law (e) of R273, with the value's bin: it holds for values off the axis too. -/
theorem Hist.pct_iterate_push_empty (v : Rat) {d p : Rat} (hd : 0 ≤ d) (h0 : 0 < p) (h1 : p ≤ 1) (k : Nat) :
    ((fun h => Hist.push h v d)^[k + 1] Hist.empty).pct p = histBin v + p := by
  obtain ⟨t, ht, iterated⟩ := Hist.iterate_push_empty v hd k
  rw [Function.iterate_succ_apply', iterated, Hist.push_single]
  exact Hist.pct_single (histBin_lt v) (by positivity) h0 h1

/-- Settles O52: each law is one of the lemmas above; a repeated push keeps all the weight in the bin of the value's floor. -/
theorem histogramLaws : Obligations.HistogramLaws := by
  refine ⟨Hist.empty_sound, fun h v d hs hd => hs.push v hd, fun h p p' hs ht hp => ?_,
    fun v d p k hv0 hv80 hd hp0 hp1 => ?_, fun h p ht => Hist.pct_of_not_pos ht p⟩
  · exact ⟨(hs.pct_mem ht p).1, hs.pct_mono ht hp, (hs.pct_mem ht p').2, hs.pct_zero ht⟩
  · rw [Hist.pct_iterate_push_empty v hd.le hp0 hp1, histBin_eq_floor hv0 hv80]

end Sys2Proof.Machine
end

section
/-! PROOFS. The mid/side matrix (44_structure_correction.md R302): each entry of encode and decode, and the inverse. -/

namespace Sys2Proof.Machine

/-! ### Entries -/

section

variable {x : Pair} {i : Nat} {l r : Rat} (hl : x.1[i]? = some l) (hr : x.2[i]? = some r)
include hl hr

theorem msEncode_getElem? :
    (msEncode x).1[i]? = some ((l + r) / 2) ∧ (msEncode x).2[i]? = some ((l - r) / 2) := by
  simp [msEncode, List.getElem?_zipWith, hl, hr]

theorem msDecode_getElem? : (msDecode x).1[i]? = some (l + r) ∧ (msDecode x).2[i]? = some (l - r) := by
  simp [msDecode, List.getElem?_zipWith, hl, hr]

/-- Half the sum and half the difference add up to the left entry, and differ by the right one. -/
theorem msDecode_msEncode_getElem? :
    (msDecode (msEncode x)).1[i]? = some l ∧ (msDecode (msEncode x)).2[i]? = some r := by
  obtain ⟨mid, side⟩ := msEncode_getElem? hl hr
  obtain ⟨left, right⟩ := msDecode_getElem? mid side
  have sum : (l + r) / 2 + (l - r) / 2 = l := by ring
  have difference : (l + r) / 2 - (l - r) / 2 = r := by ring
  exact ⟨sum ▸ left, difference ▸ right⟩

end

/-! ### The inverse -/

theorem length_msDecode_msEncode {x : Pair} (h : x.1.length = x.2.length) :
    (msDecode (msEncode x)).1.length = x.1.length ∧ (msDecode (msEncode x)).2.length = x.2.length := by
  simp [msDecode, msEncode, h]

theorem msDecode_msEncode {x : Pair} (h : x.1.length = x.2.length) : msDecode (msEncode x) = x := by
  obtain ⟨lengthLeft, lengthRight⟩ := length_msDecode_msEncode h
  have entries {i : Nat} (hi : i < x.1.length) :=
    msDecode_msEncode_getElem? (List.getElem?_eq_getElem hi) (List.getElem?_eq_getElem (h ▸ hi))
  refine Prod.ext (List.ext_getElem lengthLeft fun i hd hi => ?_) (List.ext_getElem lengthRight fun i hd hi => ?_)
  · exact List.getElem_eq_iff hd |>.2 (entries hi).1
  · exact List.getElem_eq_iff hd |>.2 (entries (h ▸ hi)).2

/-- Settles O53: the matrices are given entry by entry, and the inverse follows by the entries. -/
theorem midSide : Obligations.MidSide :=
  fun _ h => ⟨msDecode_msEncode h, fun _ _ _ hl hr =>
    have ⟨mid, side⟩ := msEncode_getElem? hl hr
    have ⟨left, right⟩ := msDecode_getElem? hl hr
    ⟨mid, side, left, right⟩⟩

end Sys2Proof.Machine
end

section
/-! PROOFS. The structure transition (44_structure_correction.md R292 to R294): what the frames of a PROCESS keep of each band's
registers, and what a commit of class S does where no band is dirty. -/

namespace Sys2Proof.Machine

section

set_option linter.unusedSectionVars false

variable {V : Type} [Zero V] [One V] [NatCast V] [Add V] [Sub V] [Neg V] [Mul V] [Div V]
  [LT V] [LE V] [BEq V] [Min V] [Max V] [DecidableLT V] [DecidableLE V] {C : Config V}

/-! ### The frames of a PROCESS and one band -/

theorem State.SignalOf.w_eq {s t : State V} (h : s.SignalOf t) : t.w = s.w := by
  obtain ⟨_, _, _, _, _, _, _, _, _, rfl⟩ := h
  rfl

/-- `processFrames_keeps` for one band alone, so that the property may name that band's own earlier value. -/
theorem processFrames_keepsBand {P : Band V → Prop} {s : State V} (h : Band.PathKeeps C s.w P) (fr : List (Frame V))
    {j : Nat} (hj : j < Config.numBands) (hb : P s.bands[j]) : P (processFrames s fr).bands[j] := by
  have key : State.PathKeeps C fun t => t.w = s.w ∧ P t.bands[j] := by
    constructor
    case sub =>
      rintro t fr ⟨hw, hp⟩
      exact ⟨(subblock_signal t fr).w_eq.trans hw, subblock_keeps (hw ▸ h) fr j hj hp⟩
    case front => exact fun _ _ hp => hp
    case push =>
      rintro t f ⟨hw, hp⟩
      refine ⟨(fifoPush_signal t f).w_eq.trans hw, ?_⟩
      unfold fifoPush
      dsimp only
      split
      · exact subblock_keeps (s := { t with fifo := { t.fifo with inp := t.fifo.inp.set t.fifo.pos f } }) (hw ▸ h) _ j hj hp
      · exact hp
    case emit => exact fun _ _ hp => hp
  exact (key.processFrames s fr ⟨rfl, hb⟩).2

@[simp] theorem Band.publishLevel_staged (ok : Bool) (b : Band V) : (b.publishLevel ok).staged = b.staged := by
  unfold Band.publishLevel
  split <;> rfl

@[simp] theorem Band.learnStep_staged (cg : GlobalRegs V) (lb ref : V) (ok : Bool) (b : Band V) :
    (b.learnStep cg lb ref ok).staged = b.staged := by
  unfold Band.learnStep
  split
  · dsimp only
    split <;> rfl
  · rfl

@[simp] theorem Band.update_staged (cg : GlobalRegs V) (fs w n : Nat) (push ok : Bool) (sums : PerMode V) (b : Band V) :
    (b.update cg fs w n push ok sums).staged = b.staged := by
  unfold Band.update
  dsimp only
  split <;> simp [Band.envelope]

/-- `c` has the registers of `b`, staged and committed. -/
def Band.SameRegs (b c : Band V) : Prop := c.staged = b.staged ∧ c.comm = b.comm

/-- No operation of the signal path writes a band register. -/
theorem Band.sameRegs_pathKeeps (b : Band V) (w : Nat) : Band.PathKeeps C w b.SameRegs where
  tick _ _ _ h := h
  update _ _ _ _ _ _ _ _ h := by simpa [Band.SameRegs] using h
  sections _ _ c h := by
    unfold Band.sectionsAt
    split <;> exact h
  filter _ _ _ _ h := h

theorem processFrames_sameRegs (s : State V) (fr : List (Frame V)) {j : Nat} (hj : j < Config.numBands) :
    s.bands[j].SameRegs (processFrames s fr).bands[j] :=
  processFrames_keepsBand (s.bands[j].sameRegs_pathKeeps s.w) fr hj ⟨rfl, rfl⟩

/-- LATENCY's formula reads nothing that the frames write (45_controller.md R352). -/
theorem processFrames_latencyOf (s : State V) (fr : List (Frame V)) : (processFrames s fr).latencyOf = s.latencyOf := by
  obtain ⟨-, cg, -, -, -, -, -, fs, -, sublen, -⟩ := (processFrames_signal s fr).frame
  refine State.latencyOf_congr cg fs sublen (groupCount_congr fun j hj => ?_)
  obtain ⟨-, comm⟩ := processFrames_sameRegs s fr hj
  rw [comm]
  exact ⟨rfl, rfl⟩

/-- With no frame the splitter is not run: nothing is put out and nothing else changes. -/
theorem processFrames_nil (s : State V) : processFrames s [] = s.emit [] := by
  have unsplit : splitRun s [] = ([], s) := by
    unfold splitRun
    split <;> rfl
  rw [processFrames, frontRun, unsplit]

/-- PROCESS 0 in a prepared block is its COMMIT (R331). -/
theorem execProcess_zero {s t : State V} (hp : s.prepared = true) (h : execProcess 0 s = .next t) :
    t = (s.consume 0).commit.emit [] := by
  obtain ⟨fr, frames, rfl⟩ := execProcess_prepared hp h
  have noWords : s.inputWords 0 = [] := by simp [State.inputWords, State.nEff]
  rw [noWords] at frames
  obtain rfl : [] = fr := Option.some.inj frames
  exact processFrames_nil _

/-! ### RECOMPUTE -/

/-- `c` is `b` with at most its designs and display registers changed. -/
def Band.DesignOf (b c : Band V) : Prop := ∃ coefs disp, c = { b with coefs := coefs, disp := disp }

theorem Band.DesignOf.trans {b c d : Band V} (h : b.DesignOf c) (k : c.DesignOf d) : b.DesignOf d := by
  obtain ⟨_, _, rfl⟩ := h
  obtain ⟨coefs, disp, rfl⟩ := k
  exact ⟨coefs, disp, rfl⟩

theorem Band.recompute_designOf (fs : Nat) (b : Band V) : b.DesignOf (b.recompute fs) := ⟨_, _, rfl⟩

theorem Band.freeze_designOf (b : Band V) : b.DesignOf b.freeze := by
  unfold Band.freeze
  split
  · exact ⟨_, _, rfl⟩
  · exact ⟨b.coefs, b.disp, rfl⟩

/-- RECOMPUTE writes designs and display registers of the bands, and nothing else of them (R339). -/
theorem recomputeBands_designOf (es : Structure) (fs : Nat) (bands : Vector (Band V) Config.numBands) {j : Nat}
    (hj : j < Config.numBands) : bands[j].DesignOf (recomputeBands es fs bands)[j] := by
  unfold recomputeBands
  dsimp only
  split
  · simpa using (bands[j].recompute_designOf fs).trans (Band.freeze_designOf _)
  · simpa using bands[j].recompute_designOf fs

/-- A group's tap sets are redesigned and its histories kept (44_structure_correction.md R313, R316). -/
theorem designGroup_hist (es : Structure) (fs : Nat) (bands : Vector (Band V) Config.numBands)
    (corr : PerGroup (PerSlot (CorrSlot V))) (g : Group) (k : Slot) :
    ((designGroup es fs bands corr g).get k).hist = ((corr.get g).get k).hist ∧
    ((designGroup es fs bands corr g).get k).cpos = ((corr.get g).get k).cpos := by
  unfold designGroup
  split
  · cases k <;> exact ⟨rfl, rfl⟩
  · exact ⟨rfl, rfl⟩

theorem designCorr_get (es : Structure) (fs : Nat) (bands : Vector (Band V) Config.numBands)
    (corr : PerGroup (PerSlot (CorrSlot V))) (g : Group) :
    (designCorr es fs bands corr).get g = designGroup es fs bands corr g := by
  cases g <;> rfl

theorem State.recompute_corrHist (s : State V) (g : Group) (k : Slot) :
    ((s.recompute.corr.get g).get k).hist = ((s.corr.get g).get k).hist ∧
    ((s.recompute.corr.get g).get k).cpos = ((s.corr.get g).get k).cpos := by
  unfold State.recompute
  dsimp only
  split
  · rw [designCorr_get]
    exact designGroup_hist ..
  · exact ⟨rfl, rfl⟩

/-! ### A commit of class S with no dirty band -/

theorem zeroCorrHist_zeroed (corr : PerGroup (PerSlot (CorrSlot V))) (g : Group) (k : Slot) :
    (∀ x ∈ (((zeroCorrHist corr).get g).get k).hist, x = 0) ∧ (((zeroCorrHist corr).get g).get k).cpos = 0 := by
  have zeroed : ((zeroCorrHist corr).get g).get k = ((corr.get g).get k).zeroHist := by
    cases g <;> cases k <;> rfl
  rw [zeroed]
  exact ⟨fun _ => List.eq_of_mem_replicate, rfl⟩

theorem State.commitBands_eq_self {s : State V} (h : ∀ j (hj : j < Config.numBands), s.bands[j].dirty = false) :
    s.commitBands = s := by
  have same := mapV_eq_self (fun b : Band V => if b.dirty then b.commitN s.w else b) s.bands
    fun j hj => by simp [h j hj]
  rw [State.commitBands, same]

/-- The global step re-sizes a band's RMS tracker at most (R338). -/
theorem State.commitGlobal_band (s : State V) {j : Nat} (hj : j < Config.numBands) :
    ∃ rms, s.commitGlobal.bands[j] = { s.bands[j] with det := { s.bands[j].det with rms := rms } } := by
  unfold State.commitGlobal
  dsimp only
  split
  · exact ⟨s.bands[j].det.rms, rfl⟩
  · exact ⟨_, by rw [State.resizeTrackers, mapV_get]⟩

end

section

variable {s : State} (hS : s.pendS = true) (hd : ∀ j (hj : j < Config.numBands), s.bands[j].dirty = false)
include hS hd

/-- The commit of a structure transition: the class-S step, the global step where GDIRTY is set, RECOMPUTE and LATENCY (R333,
R340). -/
theorem State.commit_transition :
    s.gdirty = true ∧ s.commit = s.commitS.commitGlobal.recompute.updateLatency ∨
    s.gdirty = false ∧ s.commit = s.commitS.recompute.updateLatency := by
  have structural : s.commitStructural = s.commitS := by rw [State.commitStructural, if_pos hS]
  have bands : s.commitS.commitBands = s.commitS :=
    State.commitBands_eq_self fun j hj => by simpa [Band.zeroFilter] using hd j hj
  have flagged : s.anyFlag = true := by simp [State.anyFlag, hS]
  rcases s.commit_cases with ⟨unflagged, -⟩ | ⟨-, globals, e⟩ | ⟨-, globals, e⟩
  · exact absurd (unflagged.symm.trans flagged) Bool.false_ne_true
  · exact .inl ⟨globals, by rw [e, structural, bands]⟩
  · exact .inr ⟨globals, by rw [e, structural, bands]⟩

/-- R292, R334: the committed globals of class S are the staged ones. -/
theorem State.commit_transition_globals :
    s.commit.cg.struct = s.pg.struct ∧ s.commit.cg.zeroLat = s.pg.zeroLat ∧ s.commit.cg.lookahead = s.pg.lookahead := by
  rcases State.commit_transition hS hd with ⟨-, e⟩ | ⟨-, e⟩ <;> simp [e, GlobalRegs.takeN]

theorem State.commit_transition_latency : s.commit.latency = s.commit.latencyOf := by
  rcases State.commit_transition hS hd with ⟨-, e⟩ | ⟨-, e⟩ <;> simp [e]

/-- R293, R294: a structure transition zeroes a band's filter state, brings its designs in line, and rests its detector unless
global registers are committed; its registers and its histogram rest. -/
theorem State.commit_transition_band {j : Nat} (hj : j < Config.numBands) :
    ∃ coefs disp det, (s.gdirty = false → det = s.bands[j].det) ∧
      s.commit.bands[j] = { s.bands[j] with coefs := coefs, disp := disp, det := det, fstate := fstateZero } := by
  have zeroed : s.commitS.bands[j] = { s.bands[j] with fstate := fstateZero } := by simp [Band.zeroFilter]
  rcases State.commit_transition hS hd with ⟨globals, e⟩ | ⟨-, e⟩ <;>
    rw [e, State.updateLatency_bands, State.recompute_bands]
  · obtain ⟨rms, resized⟩ := s.commitS.commitGlobal_band hj
    obtain ⟨coefs, disp, designed⟩ := recomputeBands_designOf _ _ s.commitS.commitGlobal.bands hj
    rw [designed, resized, zeroed]
    exact ⟨coefs, disp, _, fun clean => absurd (clean.symm.trans globals) Bool.false_ne_true, rfl⟩
  · obtain ⟨coefs, disp, designed⟩ := recomputeBands_designOf _ _ s.commitS.bands hj
    rw [designed, zeroed]
    exact ⟨coefs, disp, _, fun _ => rfl, rfl⟩

/-- R293, R316: a structure transition zeroes every correction history. -/
theorem State.commit_transition_corr (g : Group) (k : Slot) :
    (∀ x ∈ ((s.commit.corr.get g).get k).hist, x = 0) ∧ ((s.commit.corr.get g).get k).cpos = 0 := by
  rcases State.commit_transition hS hd with ⟨-, e⟩ | ⟨-, e⟩ <;>
    simpa only [e, State.updateLatency_corr, State.recompute_corrHist, State.commitGlobal_corr, State.commitS_corr] using
      zeroCorrHist_zeroed s.corr g k

end

theorem fstateZero_get (k : Slot) : (fstateZero : PerSlot (List SecState)).get k = List.replicate 8 ⟨0, 0⟩ := by
  cases k <;> rfl

/-- Settles O32: the commit takes the class-S registers over and zeroes filter states and histories; the frames after it write
no register. -/
theorem structureTransition : Obligations.StructureTransition := by
  intro s t n hp hS hd h
  have pending : (s.consume n).pendS = true := hS
  have clean : ∀ j (hj : j < Config.numBands), (s.consume n).bands[j].dirty = false := fun j hj => hd ⟨j, hj⟩
  have band (b : Fin 16) := State.commit_transition_band pending clean b.isLt
  obtain ⟨hstruct, hzeroLat, hlookahead⟩ := State.commit_transition_globals pending clean
  obtain ⟨fr, -, rfl⟩ := execProcess_prepared hp h
  obtain ⟨-, cg, -, -, -, -, -, -, -, -, latency, -⟩ := (processFrames_signal (s.consume n).commit fr).frame
  refine ⟨cg ▸ hstruct, cg ▸ hzeroLat, cg ▸ hlookahead, ?_, fun b => ?_, ?_⟩
  · rw [latency, processFrames_latencyOf, State.commit_transition_latency pending clean]
  · obtain ⟨staged, comm⟩ := processFrames_sameRegs (s.consume n).commit fr b.isLt
    obtain ⟨_, _, _, -, committed⟩ := band b
    rw [committed] at staged comm
    exact ⟨staged, comm⟩
  · rintro rfl
    rw [execProcess_zero hp h]
    refine ⟨fun b => ?_, State.commit_transition_corr pending clean⟩
    obtain ⟨_, _, _, same, committed⟩ := band b
    simp only [Fin.getElem_fin, State.emit_bands, committed]
    exact ⟨same, rfl, fstateZero_get⟩

end Sys2Proof.Machine
end

section
/-! PROOFS. The lookahead line (45_controller.md R343): a queue of the main pairs it still holds, in the order in which they
come out. -/

namespace Sys2Proof.Machine

/-! ### The line as a queue -/

/-- What the line holds, in the order in which it comes out. -/
def LaLine.queue (l : LaLine) : List (Rat × Rat) := l.buf.rotate l.pos

/-- The line is empty, or its position is inside its ring. -/
def LaLine.Placed (l : LaLine) : Prop := l.buf.length = 0 ∨ l.pos < l.buf.length

@[simp] theorem LaLine.queue_length (l : LaLine) : l.queue.length = l.buf.length := List.length_rotate ..

theorem LaLine.queue_getElem? {l : LaLine} {n : Nat} (h : n < l.buf.length) :
    l.queue[n]? = l.buf[(l.pos + n) % l.buf.length]? := by
  rw [LaLine.queue, List.getElem?_rotate h, Nat.add_comm]

/-- An empty line hands the pair on (R343). -/
theorem LaLine.exchange_of_empty {l : LaLine} (h : l.buf.length = 0) (x : Rat × Rat) : l.exchange x = (x, l) :=
  if_pos h

/-- Inside the ring, the pair at the position comes out and the new one takes its place (20_memory.md R66). -/
theorem LaLine.exchange_of_lt {l : LaLine} (h : l.pos < l.buf.length) (x : Rat × Rat) :
    l.exchange x = (l.buf[l.pos], { buf := l.buf.set l.pos x, pos := (l.pos + 1) % l.buf.length }) := by
  rw [LaLine.exchange, if_neg (by omega), List.getD_eq_getElem _ _ h]

theorem LaLine.Placed.exchange {l : LaLine} (h : l.Placed) (x : Rat × Rat) : (l.exchange x).2.Placed := by
  rcases h with h | h
  · rw [LaLine.exchange_of_empty h]
    exact .inl h
  · rw [LaLine.exchange_of_lt h]
    exact .inr (by simpa using Nat.mod_lt _ (by omega))

/-- A ring with an entry overwritten, read from the position after it: the new entry comes last. -/
theorem rotate_set_succ {α : Type} {l : List α} {p : Nat} (h : p < l.length) (x : α) :
    (l.set p x).rotate ((p + 1) % l.length) = l.drop (p + 1) ++ (l.take p ++ [x]) := by
  have inside : p + 1 ≤ (l.set p x).length := by simpa using h
  calc (l.set p x).rotate ((p + 1) % l.length)
    _ = (l.set p x).rotate ((p + 1) % (l.set p x).length) := by rw [List.length_set]
    _ = (l.set p x).drop (p + 1) ++ (l.set p x).take (p + 1) := by
      rw [List.rotate_mod, List.rotate_eq_drop_append_take inside]
    _ = l.drop (p + 1) ++ (l.take p ++ [x]) := by
      rw [List.drop_set_of_lt (by omega), List.take_add_one, List.take_set_of_le le_rfl]
      simp [h]

/-- An exchange puts the new pair at the end of the queue and takes out the pair at its head. -/
theorem LaLine.exchange_queue {l : LaLine} (h : l.Placed) (x : Rat × Rat) :
    (l.exchange x).1 :: (l.exchange x).2.queue = l.queue ++ [x] := by
  rcases h with h | h
  · rw [LaLine.exchange_of_empty h, LaLine.queue, List.eq_nil_of_length_eq_zero h]
    rfl
  · rw [LaLine.exchange_of_lt h, LaLine.queue, LaLine.queue, rotate_set_succ h, List.rotate_eq_drop_append_take h.le,
      List.drop_eq_getElem_cons h, List.cons_append, List.cons_append, List.append_assoc]

/-! ### The front end -/

/-- The main pair of a frame. -/
def Frame.main (f : Frame) : Rat × Rat := (f.mL, f.mR)

@[simp] theorem Frame.main_eq_iff {f g : Frame} : f.main = g.main ↔ f.mL = g.mL ∧ f.mR = g.mR := Prod.mk_inj

/-- The front end gives one frame for each, with its sidechain pair as it came (R343). -/
theorem frontRun_sidePairs : ∀ (s : State) (fr : List Frame), sidePairs (frontRun s fr).1 = sidePairs fr
  | _, [] => rfl
  | s, f :: fr => congrArg ((f.sL, f.sR) :: ·) (frontRun_sidePairs (frontFrame s f).2 fr)

/-- The line as a queue over a run: the main pairs that come out, then those still held, are those held before, then those that
came in. -/
theorem frontRun_main : ∀ (s : State) (fr : List Frame), s.la.Placed →
    (frontRun s fr).1.map Frame.main ++ (frontRun s fr).2.la.queue = s.la.queue ++ fr.map Frame.main
  | _, [], _ => (List.append_nil _).symm
  | s, f :: fr, h => by
    have rest := frontRun_main (frontFrame s f).2 fr (h.exchange f.main)
    have head : (s.la.exchange f.main).1 :: (frontFrame s f).2.la.queue = s.la.queue ++ [f.main] :=
      LaLine.exchange_queue h f.main
    calc (frontRun s (f :: fr)).1.map Frame.main ++ (frontRun s (f :: fr)).2.la.queue
      _ = (s.la.exchange f.main).1 :: ((frontRun (frontFrame s f).2 fr).1.map Frame.main ++
            (frontRun (frontFrame s f).2 fr).2.la.queue) := rfl
      _ = (s.la.queue ++ [f.main]) ++ fr.map Frame.main := by rw [rest, ← head, List.cons_append]
      _ = s.la.queue ++ (f :: fr).map Frame.main := List.append_assoc ..

theorem frontRun_length (s : State) (fr : List Frame) : (frontRun s fr).1.length = fr.length := by
  simpa [sidePairs] using congrArg List.length (frontRun_sidePairs s fr)

/-- Settles O55: a frame's main pair is found in the queue before the run where it stands within the line's length, and among
the main pairs that came where it stands past it. -/
theorem lookaheadDelay : Obligations.LookaheadDelay := by
  intro s fr placed
  refine ⟨frontRun_length s fr, fun n f hf => ?_⟩
  have bound : n < (frontRun s fr).1.length := (List.getElem?_eq_some_iff.1 hf).1
  have side : (sidePairs fr)[n]? = some (f.sL, f.sR) := by
    rw [← frontRun_sidePairs s fr, sidePairs, List.getElem?_map, hf, Option.map_some]
  have main : (s.la.queue ++ fr.map Frame.main)[n]? = some f.main := by
    rw [← frontRun_main s fr placed, List.getElem?_append_left (by simpa using bound), List.getElem?_map, hf,
      Option.map_some]
  refine ⟨?_, fun held => ?_, fun came => ?_⟩
  · simpa [sidePairs, eq_comm] using side
  · rwa [List.getElem?_append_left (by simpa using held), LaLine.queue_getElem? held] at main
  · rw [List.getElem?_append_right (by simpa using came), LaLine.queue_length] at main
    simpa [eq_comm] using main

end Sys2Proof.Machine
end

section
/-! PROOFS. What one PROCESS commits (45_controller.md R333 to R338, R340): the globals and the band registers that each step of
the commit transfers, and that the frames after it keep them. -/

namespace Sys2Proof.Machine

section

set_option linter.unusedSectionVars false

variable {V : Type} [Zero V] [One V] [NatCast V] [Add V] [Sub V] [Neg V] [Mul V] [Div V]
  [LT V] [LE V] [BEq V] [Min V] [Max V] [DecidableLT V] [DecidableLE V] {C : Config V}

/-! ### The frames keep the DIRTY flags -/

@[simp] theorem Band.publishLevel_dirty (ok : Bool) (b : Band V) : (b.publishLevel ok).dirty = b.dirty := by
  unfold Band.publishLevel
  split <;> rfl

@[simp] theorem Band.learnStep_dirty (cg : GlobalRegs V) (lb ref : V) (ok : Bool) (b : Band V) :
    (b.learnStep cg lb ref ok).dirty = b.dirty := by
  unfold Band.learnStep
  split
  · dsimp only
    split <;> rfl
  · rfl

@[simp] theorem Band.update_dirty (cg : GlobalRegs V) (fs w n : Nat) (push ok : Bool) (sums : PerMode V) (b : Band V) :
    (b.update cg fs w n push ok sums).dirty = b.dirty := by
  unfold Band.update
  dsimp only
  split <;> simp [Band.envelope]

theorem Band.clean_pathKeeps (w : Nat) : Band.PathKeeps C w fun b => b.dirty = false where
  tick _ _ _ h := h
  update _ _ _ _ _ _ _ _ h := by simpa using h
  sections _ _ c h := by
    unfold Band.sectionsAt
    split <;> exact h
  filter _ _ _ _ h := h

theorem processFrames_clean (s : State V) (fr : List (Frame V)) {j : Nat} (hj : j < Config.numBands)
    (h : s.bands[j].dirty = false) : (processFrames s fr).bands[j].dirty = false :=
  processFrames_keepsBand (Band.clean_pathKeeps s.w) fr hj h

/-! ### The structural step -/

/-- The structural step is that of class G: no class S pends before it (R340). -/
def State.takesG (s : State V) : Bool := !s.pendS && s.pendG

/-- The structural step is that of class B: neither class S nor class G pends before it (R340). -/
def State.takesB (s : State V) : Bool := !s.pendS && !s.pendG && s.pendB

/-- The committed registers of a band after the structural step: class G or class B taken over, or neither (R335, R336). -/
def BandRegs.takeStructural (takesG takesB : Bool) (comm staged : BandRegs V) : BandRegs V :=
  { comm with
    active := if takesG then staged.active else comm.active
    stereo := if takesG then staged.stereo else comm.stereo
    bypass := if takesB then staged.bypass else comm.bypass }

@[simp] theorem BandRegs.takeStructural_none (comm staged : BandRegs V) :
    comm.takeStructural false false staged = comm := rfl

/-- The committed globals after the structural step: class S or class B taken over, or neither (R334, R336). -/
def GlobalRegs.takeStructural (takesS takesB : Bool) (cg pg : GlobalRegs V) : GlobalRegs V :=
  { cg with
    struct := (if takesS then pg else cg).struct
    zeroLat := (if takesS then pg else cg).zeroLat
    lookahead := (if takesS then pg else cg).lookahead
    solo := (if takesB then pg else cg).solo
    effectOn := (if takesB then pg else cg).effectOn }

theorem Band.commitG_regs (w : Nat) (b : Band V) :
    (b.commitG w).staged = b.staged ∧ (b.commitG w).comm = b.comm.takeStructural true false b.staged := by
  unfold Band.commitG
  dsimp only
  split <;> exact ⟨rfl, rfl⟩

theorem Band.commitB_regs (b : Band V) :
    b.commitB.staged = b.staged ∧ b.commitB.comm = b.comm.takeStructural false true b.staged := by
  unfold Band.commitB
  dsimp only
  split <;> exact ⟨rfl, rfl⟩

/-- R334 to R336, R340: what the structural step transfers in a band. -/
theorem State.commitStructural_band (s : State V) {j : Nat} (hj : j < Config.numBands) :
    s.commitStructural.bands[j].staged = s.bands[j].staged ∧
    s.commitStructural.bands[j].comm = s.bands[j].comm.takeStructural s.takesG s.takesB s.bands[j].staged := by
  rcases s.commitStructural_cases with ⟨pS, e⟩ | ⟨pS, pG, e⟩ | ⟨pS, pG, pB, e⟩ | ⟨pS, pG, pB, e⟩ <;>
    rw [e]
  · simp [State.takesG, State.takesB, Band.zeroFilter, pS]
  · simpa [State.takesG, State.takesB, pS, pG] using s.bands[j].commitG_regs s.w
  · simpa [State.takesG, State.takesB, pS, pG, pB] using s.bands[j].commitB_regs
  · simp [State.takesG, State.takesB, pS, pG, pB]

/-- R334, R336, R340: what the structural step transfers of the globals. -/
theorem State.commitStructural_globals (s : State V) :
    s.commitStructural.pg = s.pg ∧ s.commitStructural.cg = s.cg.takeStructural s.pendS s.takesB s.pg := by
  rcases s.commitStructural_cases with ⟨pS, e⟩ | ⟨pS, pG, e⟩ | ⟨pS, pG, pB, e⟩ | ⟨pS, pG, pB, e⟩ <;>
    rw [e] <;> simp [GlobalRegs.takeStructural, State.takesB, *]

/-! ### The class-N steps -/

/-- The band goes from learning to not learning at its class-N step (R277, R337). -/
def Band.stopsLearning (b : Band V) : Bool := b.dirty && b.comm.learn && !b.staged.learn

/-- `y` is `x`, but that THRESH and KNEE are free where `free` is set. -/
def BandRegs.SameBut (free : Bool) (x y : BandRegs V) : Prop :=
  ∃ thresh knee, y = { x with thresh := thresh, knee := knee } ∧
    (free = false → thresh = x.thresh ∧ knee = x.knee)

theorem BandRegs.SameBut.of_eq {free : Bool} {x y : BandRegs V} (h : y = x) : x.SameBut free y :=
  ⟨x.thresh, x.knee, h, fun _ => ⟨rfl, rfl⟩⟩

/-- Stop learning writes THRESH and KNEE at most (R277). -/
theorem Band.stopLearning_regs (b : Band V) :
    b.stopLearning.dirty = b.dirty ∧ b.comm.SameBut true b.stopLearning.comm := by
  unfold Band.stopLearning
  dsimp only
  split
  · exact ⟨rfl, _, _, rfl, nofun⟩
  · exact ⟨rfl, .of_eq rfl⟩

/-- R337: the class-N step of a band clears DIRTY and transfers the class-N registers. -/
theorem Band.commitN_regs (w : Nat) (b : Band V) :
    (b.commitN w).dirty = false ∧
    (b.comm.takeN b.staged).SameBut (b.comm.learn && !b.staged.learn) (b.commitN w).comm := by
  unfold Band.commitN
  extract_lets c b0 b1 b2 _ _ b3
  have regs1 : b1.dirty = false ∧ b1.comm = c := by
    unfold b1
    split <;> exact ⟨rfl, rfl⟩
  have regs2 : b2.dirty = false ∧ b2.comm = c := by
    unfold b2
    split <;> exact regs1
  obtain ⟨clean, regs⟩ : b3.dirty = false ∧ b3.comm = c := by
    unfold b3
    split <;> exact regs2
  split
  · exact ⟨clean, .of_eq regs⟩
  · split
    next stops =>
      obtain ⟨dirty, same⟩ := b3.stopLearning_regs
      have free : (b.comm.learn && !b.staged.learn) = true := by
        rw [Bool.and_comm]
        exact stops
      rw [regs] at same
      rw [dirty, free]
      exact ⟨clean, same⟩
    · exact ⟨clean, .of_eq regs⟩

/-- The committed registers of a band after the structural step and the class-N steps, where it does not stop learning. -/
def Band.transferred (takesG takesB : Bool) (b : Band V) : BandRegs V :=
  (b.comm.takeStructural takesG takesB b.staged).takeN (if b.dirty then b.staged else b.comm)

/-- R333, R337: what the structural step and the class-N steps transfer in a band. -/
theorem State.commitBands_band (s : State V) {j : Nat} (hj : j < Config.numBands) :
    s.commitStructural.commitBands.bands[j].dirty = false ∧
    (s.bands[j].transferred s.takesG s.takesB).SameBut s.bands[j].stopsLearning
      s.commitStructural.commitBands.bands[j].comm := by
  obtain ⟨staged, comm⟩ := s.commitStructural_band (C := C) hj
  obtain ⟨-, -, dirty⟩ := s.commitStructural_frame (C := C)
  rw [State.commitBands_bands, mapV_get, dirty j hj]
  cases hd : s.bands[j].dirty with
  | true =>
    obtain ⟨clean, same⟩ := s.commitStructural.bands[j].commitN_regs (C := C) s.commitStructural.w
    rw [staged, comm] at same
    rw [if_pos rfl, Band.transferred, hd, if_pos rfl, Band.stopsLearning, hd]
    exact ⟨clean, same⟩
  | false =>
    rw [if_neg Bool.false_ne_true, Band.transferred, hd, if_neg Bool.false_ne_true]
    exact ⟨(dirty j hj).trans hd, .of_eq comm⟩

/-! ### The whole commit -/

theorem State.anyFlag_eq_false {s : State V} (h : s.anyFlag = false) :
    (s.pendS = false ∧ s.pendG = false ∧ s.pendB = false ∧ s.gdirty = false) ∧
    ∀ j (hj : j < Config.numBands), s.bands[j].dirty = false := by
  simp only [State.anyFlag, Bool.or_eq_false_iff, List.any_eq_false] at h
  obtain ⟨⟨⟨⟨pS, pG⟩, pB⟩, globals⟩, bands⟩ := h
  exact ⟨⟨pS, pG, pB, globals⟩, fun j hj => by simpa using bands s.bands[j] (by simp)⟩

/-- With no flag set the commit's transfers change nothing. -/
theorem State.commitBands_of_no_flag {s : State V} (h : s.anyFlag = false) : s.commitStructural.commitBands = s := by
  obtain ⟨⟨pS, pG, pB, -⟩, bands⟩ := State.anyFlag_eq_false h
  have structural : s.commitStructural = s := by simp [State.commitStructural, pS, pG, pB]
  rw [structural, State.commitBands_eq_self bands]

/-- What comes after the class-N steps of the bands leaves their DIRTY flags and committed registers alone (R338, R339). -/
theorem State.commit_band (s : State V) {j : Nat} (hj : j < Config.numBands) :
    s.commit.bands[j].dirty = s.commitStructural.commitBands.bands[j].dirty ∧
    s.commit.bands[j].comm = s.commitStructural.commitBands.bands[j].comm := by
  rcases s.commit_cases with ⟨idle, e⟩ | ⟨-, -, e⟩ | ⟨-, -, e⟩ <;> rw [e]
  · rw [State.commitBands_of_no_flag idle]
    exact ⟨rfl, rfl⟩
  all_goals rw [State.updateLatency_bands, State.recompute_bands]
  · obtain ⟨rms, resized⟩ := s.commitStructural.commitBands.commitGlobal_band hj
    obtain ⟨coefs, disp, designed⟩ := recomputeBands_designOf _ _ s.commitStructural.commitBands.commitGlobal.bands hj
    rw [designed, resized]
    exact ⟨rfl, rfl⟩
  · obtain ⟨coefs, disp, designed⟩ := recomputeBands_designOf _ _ s.commitStructural.commitBands.bands hj
    rw [designed]
    exact ⟨rfl, rfl⟩

/-- The committed globals after a commit: those of the structural step, and class N where GDIRTY is set (R334, R336, R338). -/
theorem State.commit_globals (s : State V) :
    s.commit.cg = (s.cg.takeStructural s.pendS s.takesB s.pg).takeN (if s.gdirty then s.pg else s.cg) := by
  obtain ⟨staged, structural⟩ := s.commitStructural_globals (C := C)
  rcases s.commit_cases with ⟨idle, e⟩ | ⟨-, globals, e⟩ | ⟨-, globals, e⟩ <;> rw [e]
  · obtain ⟨⟨pS, pG, pB, globals⟩, -⟩ := State.anyFlag_eq_false idle
    simp [GlobalRegs.takeStructural, GlobalRegs.takeN, State.takesB, pS, pB, globals]
  · simp [globals, staged, structural]
  · rw [State.updateLatency_cg, State.recompute_cg, State.commitBands_cg, structural, globals]
    rfl

/-- The flags of the structural classes after a commit: the class that was applied is cleared, the others stay (R340). -/
theorem State.commit_pending (s : State V) :
    s.commit.pendS = false ∧ s.commit.pendG = (s.pendG && !s.takesG) ∧ s.commit.pendB = (s.pendB && !s.takesB) := by
  obtain ⟨-, pS, pG, pB⟩ := s.commit_flags
  rw [pG, pB, State.takesG, State.takesB]
  refine ⟨pS, ?_, ?_⟩
  · cases s.pendS <;> cases s.pendG <;> rfl
  · cases s.pendS <;> cases s.pendG <;> cases s.pendB <;> rfl

end

/-! ### PROCESS -/

section

variable {s t : State} {n : Nat} (hp : s.prepared = true) (h : execProcess n s = .next t)
include hp h

theorem execProcess_pending :
    t.pendS = false ∧ t.pendG = (s.pendG && !s.takesG) ∧ t.pendB = (s.pendB && !s.takesB) ∧ t.gdirty = false := by
  obtain ⟨fr, -, rfl⟩ := execProcess_prepared hp h
  obtain ⟨-, -, gdirty, pendS, pendG, pendB, -⟩ := (processFrames_signal (s.consume n).commit fr).frame
  obtain ⟨keptS, keptG, keptB⟩ := (s.consume n).commit_pending
  obtain ⟨clean, -⟩ := (s.consume n).commit_flags
  exact ⟨pendS.trans keptS, pendG.trans keptG, pendB.trans keptB, gdirty.trans clean⟩

theorem execProcess_globals :
    t.cg = (s.cg.takeStructural s.pendS s.takesB s.pg).takeN (if s.gdirty then s.pg else s.cg) := by
  obtain ⟨fr, -, rfl⟩ := execProcess_prepared hp h
  obtain ⟨-, cg, -⟩ := (processFrames_signal (s.consume n).commit fr).frame
  exact cg.trans (s.consume n).commit_globals

theorem execProcess_band {j : Nat} (hj : j < Config.numBands) :
    t.bands[j].dirty = false ∧
    (s.bands[j].transferred s.takesG s.takesB).SameBut s.bands[j].stopsLearning t.bands[j].comm := by
  obtain ⟨fr, -, rfl⟩ := execProcess_prepared hp h
  obtain ⟨clean, same⟩ := (s.consume n).commitBands_band (C := .standard) hj
  obtain ⟨dirty, comm⟩ := (s.consume n).commit_band (C := .standard) hj
  obtain ⟨-, kept⟩ := processFrames_sameRegs (C := .standard) (s.consume n).commit fr hj
  rw [← comm, ← kept] at same
  exact ⟨processFrames_clean _ fr hj (dirty.trans clean), same⟩

end

/-- Settles O29: each register of the transferred files is the one R334 to R338 name; THRESH and KNEE are so where the band
does not stop learning. -/
theorem commitTransfers : Obligations.CommitTransfers := by
  intro s t n hp h
  obtain ⟨pendS, pendG, pendB, gdirty⟩ := execProcess_pending hp h
  refine ⟨pendS, pendG, pendB, gdirty, ?_, ?_, ?_, fun b => ?_⟩
  · rw [execProcess_globals hp h]
    exact ⟨rfl, rfl, rfl⟩
  · rw [execProcess_globals hp h]
    exact ⟨rfl, rfl⟩
  · rw [execProcess_globals hp h]
    exact ⟨rfl, rfl, rfl, rfl, rfl, rfl, rfl, rfl⟩
  · obtain ⟨clean, thresh, knee, same, kept⟩ := execProcess_band hp h b.isLt
    rw [← Fin.getElem_fin t.bands b b.isLt] at same
    dsimp only
    rw [same]
    exact ⟨clean, rfl, rfl, rfl, rfl, rfl, rfl, rfl, rfl, rfl, rfl, rfl, rfl, rfl, rfl, rfl, rfl, rfl, rfl, kept⟩

end Sys2Proof.Machine
end

section
/-! PROOFS. The encoding round trip (30_encoding.md R86 to R91, R100, R102, R104): decoding inverts encoding, encoding inverts
decoding, and the reserved words are the ones R90 and R100 name. -/

namespace Sys2Proof.Laws.DecodeEncode

/-- Each constructor's law, gathered. -/
theorem all : ∀ i : Instr, Statement i
  | .nop => nop
  | .reset => reset
  | .prepare m f => prepare m f
  | .process n => process n
  | .wrbActive b d => wrbActive b d
  | .wrbBypass b d => wrbBypass b d
  | .wrbFtype b d => wrbFtype b d
  | .wrbOrder b d => wrbOrder b d
  | .wrbFreq b d => wrbFreq b d
  | .wrbGain b d => wrbGain b d
  | .wrbQ b d => wrbQ b d
  | .wrbStereo b d => wrbStereo b d
  | .wrbDynOn b d => wrbDynOn b d
  | .wrbTgain b d => wrbTgain b d
  | .wrbTq b d => wrbTq b d
  | .wrbThresh b d => wrbThresh b d
  | .wrbKnee b d => wrbKnee b d
  | .wrbAttack b d => wrbAttack b d
  | .wrbRelease b d => wrbRelease b d
  | .wrbRelThresh b d => wrbRelThresh b d
  | .wrbSideFreq b d => wrbSideFreq b d
  | .wrbSideQ b d => wrbSideQ b d
  | .wrbSideSwap b d => wrbSideSwap b d
  | .wrbLearn b d => wrbLearn b d
  | .rdbActive b => rdbActive b
  | .rdbBypass b => rdbBypass b
  | .rdbFtype b => rdbFtype b
  | .rdbOrder b => rdbOrder b
  | .rdbFreq b => rdbFreq b
  | .rdbGain b => rdbGain b
  | .rdbQ b => rdbQ b
  | .rdbStereo b => rdbStereo b
  | .rdbDynOn b => rdbDynOn b
  | .rdbTgain b => rdbTgain b
  | .rdbTq b => rdbTq b
  | .rdbThresh b => rdbThresh b
  | .rdbKnee b => rdbKnee b
  | .rdbAttack b => rdbAttack b
  | .rdbRelease b => rdbRelease b
  | .rdbRelThresh b => rdbRelThresh b
  | .rdbSideFreq b => rdbSideFreq b
  | .rdbSideQ b => rdbSideQ b
  | .rdbSideSwap b => rdbSideSwap b
  | .rdbLearn b => rdbLearn b
  | .rdbCurT b => rdbCurT b
  | .rdbCurGain b => rdbCurGain b
  | .rdbCurQ b => rdbCurQ b
  | .rdbCurLevel b => rdbCurLevel b
  | .rdbHistP05 b => rdbHistP05 b
  | .rdbHistP50 b => rdbHistP50 b
  | .rdbHistP95 b => rdbHistP95 b
  | .rdbNsec b => rdbNsec b
  | .wrgStructure d => wrgStructure d
  | .wrgZeroLat d => wrgZeroLat d
  | .wrgLookahead d => wrgLookahead d
  | .wrgScPresent d => wrgScPresent d
  | .wrgSolo d => wrgSolo d
  | .wrgTrim d => wrgTrim d
  | .wrgEffectOn d => wrgEffectOn d
  | .wrgHq d => wrgHq d
  | .wrgPhaseFlip d => wrgPhaseFlip d
  | .wrgSgcOn d => wrgSgcOn d
  | .wrgMeasure d => wrgMeasure d
  | .wrgRmsMs d => wrgRmsMs d
  | .wrgDecaySel d => wrgDecaySel d
  | .rdgStructure => rdgStructure
  | .rdgZeroLat => rdgZeroLat
  | .rdgLookahead => rdgLookahead
  | .rdgScPresent => rdgScPresent
  | .rdgSolo => rdgSolo
  | .rdgTrim => rdgTrim
  | .rdgEffectOn => rdgEffectOn
  | .rdgHq => rdgHq
  | .rdgPhaseFlip => rdgPhaseFlip
  | .rdgSgcOn => rdgSgcOn
  | .rdgMeasure => rdgMeasure
  | .rdgRmsMs => rdgRmsMs
  | .rdgDecaySel => rdgDecaySel
  | .rdgLatency => rdgLatency
  | .rdgSrate => rdgSrate
  | .rdgMaxblock => rdgMaxblock
  | .rdgSublen => rdgSublen
  | .rdgStatus => rdgStatus
  | .rdgLatSeq => rdgLatSeq
  | .rdgAgain => rdgAgain
  | .rdgEffStruct => rdgEffStruct

end Sys2Proof.Laws.DecodeEncode

namespace Sys2Proof.Machine

/-- Settles O1: by the law of each constructor. -/
theorem decodeEncode : Obligations.DecodeEncode := Laws.DecodeEncode.all

/-! ### The register decoders -/

/-- What a WRB row answers has that row's word, and is well-formed where the band fits its field. -/
theorem encode_of_decodeWrb {reg band : Nat} {data : DataWord} {i : Instr} (h : decodeWrb reg band data = some i) :
    (band < 2 ^ 8 → i.wellFormed = true) ∧ encode i = packR 0x10 band reg data.toNat := by
  unfold decodeWrb at h
  split at h <;> cases h <;> exact ⟨decide_eq_true, rfl⟩

theorem encode_of_decodeRdb {reg band : Nat} {i : Instr} (h : decodeRdb reg band = some i) :
    (band < 2 ^ 8 → i.wellFormed = true) ∧ encode i = packR 0x11 band reg 0 := by
  unfold decodeRdb at h
  split at h <;> cases h <;> exact ⟨decide_eq_true, rfl⟩

theorem encode_of_decodeWrg {reg : Nat} {data : DataWord} {i : Instr} (h : decodeWrg reg data = some i) :
    i.wellFormed = true ∧ encode i = packR 0x12 0 reg data.toNat := by
  unfold decodeWrg at h
  split at h <;> cases h <;> exact ⟨rfl, rfl⟩

theorem encode_of_decodeRdg {reg : Nat} {i : Instr} (h : decodeRdg reg = some i) :
    i.wellFormed = true ∧ encode i = packR 0x13 0 reg 0 := by
  unfold decodeRdg at h
  split at h <;> cases h <;> exact ⟨rfl, rfl⟩

/-- The registers of the access class WRB (20_memory.md R67). -/
theorem decodeWrb_eq_none_iff {reg band : Nat} {data : DataWord} : decodeWrb reg band data = none ↔ 0x14 ≤ reg := by
  unfold decodeWrb
  split
  case h_21 =>
    simp only [imp_false] at *
    simp only [true_iff]
    omega
  all_goals simp

/-- The registers of the access class RDB (20_memory.md R67). -/
theorem decodeRdb_eq_none_iff {reg band : Nat} :
    decodeRdb reg band = none ↔ 0x14 ≤ reg ∧ reg ≤ 0x1F ∨ 0x28 ≤ reg := by
  unfold decodeRdb
  split
  case h_29 =>
    simp only [imp_false] at *
    simp only [true_iff]
    omega
  all_goals simp

/-- The registers of the access class WRG (20_memory.md R67). -/
theorem decodeWrg_eq_none_iff {reg : Nat} {data : DataWord} : decodeWrg reg data = none ↔ 0x0D ≤ reg := by
  unfold decodeWrg
  split
  case h_14 =>
    simp only [imp_false] at *
    simp only [true_iff]
    omega
  all_goals simp

/-- The registers of the access class RDG (20_memory.md R67). -/
theorem decodeRdg_eq_none_iff {reg : Nat} : decodeRdg reg = none ↔ 0x0D ≤ reg ∧ reg ≤ 0x1F ∨ 0x28 ≤ reg := by
  unfold decodeRdg
  split
  case h_22 =>
    simp only [imp_false] at *
    simp only [true_iff]
    omega
  all_goals simp

theorem ofOption_eq_instr {o : Option Instr} {i : Instr} (h : Decoded.ofOption o = .instr i) : o = some i := by
  cases o with
  | none => cases h
  | some j => exact congrArg some (Decoded.instr.inj h)

theorem exists_ofOption_eq_reserved_iff {o : Option Instr} : (∃ r, Decoded.ofOption o = .reserved r) ↔ o = none := by
  cases o with
  | none => exact ⟨fun _ => rfl, fun _ => ⟨.register, rfl⟩⟩
  | some j => exact ⟨nofun, nofun⟩

/-! ### A word from its fields -/

theorem bitField_lt (w lo len : Nat) : bitField w lo len < 2 ^ len := Nat.mod_lt _ (Nat.two_pow_pos len)

/-- A word whose must-be-zero field is zero is the format R word of its other fields (R86). -/
theorem packR_of_fields (w : CmdWord) (mbz : bitField w.toNat 32 8 = 0) :
    packR (bitField w.toNat 56 8) (bitField w.toNat 48 8) (bitField w.toNat 40 8) (bitField w.toNat 0 32) = w := by
  apply BitVec.eq_of_toNat_eq
  rw [packR_toNat (bitField_lt ..) (bitField_lt ..) (bitField_lt ..) (bitField_lt ..)]
  unfold bitField at *
  have inside := w.isLt
  omega

/-- A word is the format P or A word of its fields (R87, R88). -/
theorem packP_of_fields (w : CmdWord) :
    packP (bitField w.toNat 56 8) (bitField w.toNat 32 24) (bitField w.toNat 0 32) = w := by
  apply BitVec.eq_of_toNat_eq
  rw [packP_toNat (bitField_lt ..) (bitField_lt ..) (bitField_lt ..)]
  unfold bitField
  have inside := w.isLt
  omega

theorem zext32_bitField_toNat (w : Nat) : (zext32 (bitField w 0 32)).toNat = bitField w 0 32 :=
  (BitVec.toNat_ofNat ..).trans (Nat.mod_eq_of_lt (bitField_lt ..))

/-- A word with an opcode and nothing below it. -/
theorem packR_of_low_zero (w : CmdWord) (low : bitField w.toNat 0 56 = 0) : packR (bitField w.toNat 56 8) 0 0 0 = w := by
  apply BitVec.eq_of_toNat_eq
  rw [packR_toNat (bitField_lt ..) (by decide) (by decide) (by decide)]
  unfold bitField at *
  have inside := w.isLt
  omega

/-! ### The decoder -/

/-- Settles O2: by the opcode, and for the register commands by the register; the word is put together from its fields again. -/
theorem encodeDecode : Obligations.EncodeDecode := by
  intro w i h
  have band_lt := bitField_lt w.toNat 48 8
  simp only [decode] at h
  split at h
  case h_1 op =>
    split at h <;> cases h
    have word := packR_of_low_zero w ‹_›
    rw [op] at word
    exact ⟨rfl, word⟩
  case h_2 op =>
    split at h <;> cases h
    have word := packR_of_low_zero w ‹_›
    rw [op] at word
    exact ⟨rfl, word⟩
  case h_3 op =>
    cases h
    have word := packP_of_fields w
    rw [op] at word
    exact ⟨Bool.and_eq_true_iff.2 ⟨decide_eq_true (bitField_lt ..), decide_eq_true (bitField_lt ..)⟩, word⟩
  case h_4 op =>
    split at h <;> cases h
    rename_i hi
    have word := packP_of_fields w
    rw [op, hi] at word
    exact ⟨decide_eq_true (bitField_lt ..), word⟩
  case h_5 op =>
    split at h <;> [skip; cases h]
    rename_i mbz
    obtain ⟨wf, enc⟩ := encode_of_decodeWrb (ofOption_eq_instr h)
    have word := packR_of_fields w mbz
    rw [op] at word
    rw [zext32_bitField_toNat] at enc
    exact ⟨wf band_lt, enc.trans word⟩
  case h_6 op =>
    split at h <;> [skip; cases h]
    rename_i zero
    obtain ⟨mbz, data⟩ := zero
    obtain ⟨wf, enc⟩ := encode_of_decodeRdb (ofOption_eq_instr h)
    have word := packR_of_fields w mbz
    rw [op, data] at word
    exact ⟨wf band_lt, enc.trans word⟩
  case h_7 op =>
    split at h <;> [skip; cases h]
    rename_i zero
    obtain ⟨band, mbz⟩ := zero
    obtain ⟨wf, enc⟩ := encode_of_decodeWrg (ofOption_eq_instr h)
    have word := packR_of_fields w mbz
    rw [op, band] at word
    rw [zext32_bitField_toNat] at enc
    exact ⟨wf, enc.trans word⟩
  case h_8 op =>
    split at h <;> [skip; cases h]
    rename_i zero
    obtain ⟨band, mbz, data⟩ := zero
    obtain ⟨wf, enc⟩ := encode_of_decodeRdg (ofOption_eq_instr h)
    have word := packR_of_fields w mbz
    rw [op, band, data] at word
    exact ⟨wf, enc.trans word⟩
  case h_9 => cases h

/-- A decoder that checks its must-be-zero fields first answers a reserved word where one is set, or where it names no register. -/
theorem exists_reserved_ite_iff {p : Prop} [Decidable p] {d : Decoded} :
    (∃ r, (if p then d else .reserved .mustBeZero) = .reserved r) ↔ ¬ p ∨ ∃ r, d = .reserved r := by
  by_cases h : p
  · rw [if_pos h, or_iff_right (not_not_intro h)]
  · rw [if_neg h]
    exact iff_of_true ⟨.mustBeZero, rfl⟩ (.inl h)

/-- Settles O3: by the opcode; each opcode's decoder answers a reserved word exactly where one of its fields is at fault. -/
theorem reservedWords : Obligations.ReservedWords := by
  intro w
  dsimp only
  simp only [decode]
  split
  case h_9 =>
    simp only [imp_false] at *
    refine iff_of_true ⟨_, rfl⟩ ?_
    have undefined : 0x04 ≤ bitField w.toNat 56 8 ∧ bitField w.toNat 56 8 ≤ 0x0F ∨ 0x14 ≤ bitField w.toNat 56 8 := by omega
    exact undefined.imp_right .inl
  all_goals
    rename_i op
    simp [exists_reserved_ite_iff, exists_ofOption_eq_reserved_iff, decodeWrb_eq_none_iff, decodeRdb_eq_none_iff,
      decodeWrg_eq_none_iff, decodeRdg_eq_none_iff, op]
  all_goals tauto

/-- Settles O4: the decoder is run on each word. -/
theorem sampleWords : Obligations.SampleWords := by
  unfold Obligations.SampleWords
  decide

end Sys2Proof.Machine
end

section
/-! PROOFS. The register commands (40_register_commands.md R105 to R162): what a write stores, what a read answers, one lemma for
each shape of register. -/

namespace Sys2Proof.Machine

/-! ### Vectors -/

theorem mapV_set {α β : Type} {n : Nat} (f : α → β) (v : Vector α n) {i : Nat} (hi : i < n) {x : α} (h : f x = f v[i]) :
    mapV f (v.set i x) = mapV f v := by
  apply Vector.ext
  intro j hj
  rw [mapV_get, mapV_get, Vector.getElem_set]
  split
  next e => subst e; exact h
  next => rfl

/-! ### Data kinds -/

theorem decodeBool_eq (d : DataWord) : decodeBool d = decide (d ≠ 0) := (decide_not ..).symm

theorem decodeF32_nan {lo hi : Rat} {d : DataWord} (h : f32val d = .nan) : decodeF32 lo hi d = none := by
  rw [decodeF32, h]

theorem decodeF32_inf {lo hi : Rat} {d : DataWord} {negative : Bool} (h : f32val d = .inf negative) :
    decodeF32 lo hi d = some (if negative then lo else hi) := by
  rw [decodeF32, h]

theorem decodeF32_fin {lo hi v : Rat} {d : DataWord} (h : f32val d = .fin v) :
    decodeF32 lo hi d = some (Arith.clamp v lo hi) := by
  rw [decodeF32, h]
  rfl

theorem FType.ofCode_eq {n : Nat} {y : FType} (h : n = y.code ∨ 8 < n ∧ y = .tiltShelf) : FType.ofCode (min n 8) = y := by
  rcases h with rfl | ⟨high, rfl⟩
  · cases y <;> rfl
  · rw [min_eq_right high.le]
    rfl

theorem Stereo.ofCode_eq {n : Nat} {y : Stereo} (h : n = y.code ∨ 4 < n ∧ y = .side) : Stereo.ofCode (min n 4) = y := by
  rcases h with rfl | ⟨high, rfl⟩
  · cases y <;> rfl
  · rw [min_eq_right high.le]
    rfl

theorem Structure.ofCode_eq {n : Nat} {y : Structure} (h : n = y.code ∨ 5 < n ∧ y = .linear) :
    Structure.ofCode (min n 5) = y := by
  rcases h with rfl | ⟨high, rfl⟩
  · cases y <;> rfl
  · rw [min_eq_right high.le]
    rfl

theorem FType.code_ofCode {n : Nat} (h : n ≤ 8) : (FType.ofCode n).code = n := by
  interval_cases n <;> rfl

theorem Stereo.code_ofCode {n : Nat} (h : n ≤ 4) : (Stereo.ofCode n).code = n := by
  interval_cases n <;> rfl

theorem Structure.code_ofCode {n : Nat} (h : n ≤ 5) : (Structure.ofCode n).code = n := by
  interval_cases n <;> rfl

/-! ### The commands by register -/

theorem exec_writeBand (r : BandReg) (b : Nat) (d : DataWord) (s : State) :
    exec (r.write b d) s = .next (s.writeBand r b d) := by
  cases r <;> rfl

theorem exec_readBand (r : BandReg) (b : Nat) (s : State) : exec (r.read b) s = .next (s.respond (s.readBand r b)) := by
  cases r <;> rfl

theorem exec_readDisplay (r : DispReg) (b : Nat) (s : State) :
    exec (r.read b) s = .next (s.respond (s.readDisplay r b)) := by
  cases r <;> rfl

theorem exec_writeGlobal (r : GlobalReg) (d : DataWord) (s : State) :
    exec (r.write d) s = .next (s.writeGlobal r d) := by
  cases r <;> rfl

theorem exec_readGlobal (r : GlobalReg) (s : State) : exec r.read s = .next (s.respond (r.load s.pg)) := by
  cases r <;> rfl

/-! ### Band writes -/

theorem State.writeBand_of_none {s : State} {r : BandReg} {b : Fin 16} {d : DataWord}
    (h : r.store d s.bands[b].staged = none) : s.writeBand r b d = s := by
  rcases s.writeBand_cases r b d with e | ⟨_, x, stored, _⟩
  · exact e
  · exact absurd (h.symm.trans stored) nofun

theorem State.writeBand_of_some {s : State} {r : BandReg} {b : Fin 16} {d : DataWord} {x : BandRegs}
    (h : r.store d s.bands[b].staged = some x) :
    s.writeBand r b d = ({ s with bands := s.bands.set b { s.bands[b] with staged := x } }).flagBand b r.cls := by
  have stored : r.store d s.bands[b.val].staged = some x := h
  simp only [State.writeBand, dif_pos b.isLt, stored]
  rfl

section

variable {s : State} {r : BandReg} {b : Fin 16} {d : DataWord} {f : BandRegs → BandRegs}
  (h : ∀ x, r.store d x = some (f x))
include h

/-- R108: a write to a register of class N stores the value and sets DIRTY. -/
theorem State.writeBand_classN (hc : r.cls = .n) : s.writeBand r b d = s.stageN b f := by
  rw [State.writeBand_of_some (h _), hc]
  simp [State.flagBand, State.stageN]

/-- R108: a write to a register of class G stores the value and sets PEND_G. -/
theorem State.writeBand_classG (hc : r.cls = .g) : s.writeBand r b d = { s.stage b f with pendG := true } := by
  rw [State.writeBand_of_some (h _), hc]
  rfl

/-- R108: a write to a register of class B stores the value and sets PEND_B. -/
theorem State.writeBand_classB (hc : r.cls = .b) : s.writeBand r b d = { s.stage b f with pendB := true } := by
  rw [State.writeBand_of_some (h _), hc]
  rfl

end

/-- Settles O13: the value is the bool write decode, and the flag is that of the register's class. -/
theorem wrbBool : Obligations.WrbBool := by
  intro s b d
  simp only [← decodeBool_eq]
  exact ⟨congrArg _ (State.writeBand_classG (r := .active) (fun _ => rfl) rfl),
    congrArg _ (State.writeBand_classB (r := .bypass) (fun _ => rfl) rfl),
    congrArg _ (State.writeBand_classN (r := .dynOn) (fun _ => rfl) rfl),
    congrArg _ (State.writeBand_classN (r := .relThresh) (fun _ => rfl) rfl),
    congrArg _ (State.writeBand_classN (r := .sideSwap) (fun _ => rfl) rfl),
    congrArg _ (State.writeBand_classN (r := .learn) (fun _ => rfl) rfl)⟩

/-- Settles O14: the code stored is the clamped one, whose enumeration value is the one named. -/
theorem wrbCode : Obligations.WrbCode := by
  intro s b d
  refine ⟨fun y h => ?_, fun y h => ?_, congrArg _ (State.writeBand_classN (r := .order) (fun _ => rfl) rfl)⟩
  · rw [← FType.ofCode_eq h]
    exact congrArg _ (State.writeBand_classN (r := .ftype) (fun _ => rfl) rfl)
  · rw [← Stereo.ofCode_eq h]
    exact congrArg _ (State.writeBand_classG (r := .stereo) (fun _ => rfl) rfl)

/-- R95, R108: an f32 register of class N stores its data as the f32 write decode says. -/
theorem storesBand_of_store {s : State} {b : Fin 16} (r : BandReg) {mk : Nat → DataWord → Instr}
    {put : Rat → BandRegs → BandRegs} {lo hi : Rat} (hmk : mk = r.write) (hc : r.cls = .n)
    (h : ∀ d x, r.store d x = (decodeF32 lo hi d).map fun v => put v x) : StoresBand s b mk put lo hi := by
  intro d
  rw [hmk, exec_writeBand]
  refine ⟨fun e => congrArg _ (State.writeBand_of_none ?_), fun e => congrArg _ (State.writeBand_classN (fun x => ?_) hc),
    fun e => congrArg _ (State.writeBand_classN (fun x => ?_) hc),
    fun v e => congrArg _ (State.writeBand_classN (fun x => ?_) hc)⟩
  · rw [h, decodeF32_nan e, Option.map_none]
  · rw [h, decodeF32_inf e, Option.map_some, if_pos rfl]
  · rw [h, decodeF32_inf e, Option.map_some, if_neg Bool.false_ne_true]
  · rw [h, decodeF32_fin e, Option.map_some]

/-- Settles O15: each register stores the f32 write decode with its range. -/
theorem wrbF32 : Obligations.WrbF32 := fun _ _ =>
  ⟨storesBand_of_store .freq rfl rfl fun _ _ => rfl, storesBand_of_store .gain rfl rfl fun _ _ => rfl,
    storesBand_of_store .q rfl rfl fun _ _ => rfl, storesBand_of_store .tgain rfl rfl fun _ _ => rfl,
    storesBand_of_store .tq rfl rfl fun _ _ => rfl, storesBand_of_store .thresh rfl rfl fun _ _ => rfl,
    storesBand_of_store .knee rfl rfl fun _ _ => rfl, storesBand_of_store .attack rfl rfl fun _ _ => rfl,
    storesBand_of_store .release rfl rfl fun _ _ => rfl, storesBand_of_store .sideFreq rfl rfl fun _ _ => rfl,
    storesBand_of_store .sideQ rfl rfl fun _ _ => rfl⟩

/-! ### Band reads -/

theorem State.readBand_fin (s : State) (r : BandReg) (b : Fin 16) : s.readBand r b = r.load s.bands[b].staged :=
  dif_pos b.isLt

theorem State.readDisplay_fin (s : State) (r : DispReg) (b : Fin 16) : s.readDisplay r b = r.load s.bands[b].disp :=
  dif_pos b.isLt

/-- R109: RDB of a writable register answers its staged copy. -/
theorem exec_readBand_fin (r : BandReg) (b : Fin 16) (s : State) :
    exec (r.read b) s = .next (s.respond (r.load s.bands[b].staged)) := by
  rw [exec_readBand, State.readBand_fin]

/-- R109: RDB of a display register answers what was last published. -/
theorem exec_readDisplay_fin (r : DispReg) (b : Fin 16) (s : State) :
    exec (r.read b) s = .next (s.respond (r.load s.bands[b].disp)) := by
  rw [exec_readDisplay, State.readDisplay_fin]

/-- Settles O16: by the register. -/
theorem rdbStaged : Obligations.RdbStaged := fun s b =>
  ⟨exec_readBand_fin .active b s, exec_readBand_fin .bypass b s, exec_readBand_fin .ftype b s, exec_readBand_fin .order b s,
    exec_readBand_fin .freq b s, exec_readBand_fin .gain b s, exec_readBand_fin .q b s, exec_readBand_fin .stereo b s,
    exec_readBand_fin .dynOn b s, exec_readBand_fin .tgain b s, exec_readBand_fin .tq b s, exec_readBand_fin .thresh b s,
    exec_readBand_fin .knee b s, exec_readBand_fin .attack b s, exec_readBand_fin .release b s,
    exec_readBand_fin .relThresh b s, exec_readBand_fin .sideFreq b s, exec_readBand_fin .sideQ b s,
    exec_readBand_fin .sideSwap b s, exec_readBand_fin .learn b s⟩

/-- Settles O17: by the register. -/
theorem rdbDisplay : Obligations.RdbDisplay := fun s b =>
  ⟨exec_readDisplay_fin .curT b s, exec_readDisplay_fin .curGain b s, exec_readDisplay_fin .curQ b s,
    exec_readDisplay_fin .curLevel b s, exec_readDisplay_fin .histP05 b s, exec_readDisplay_fin .histP50 b s,
    exec_readDisplay_fin .histP95 b s, exec_readDisplay_fin .nsec b s⟩

/-- Settles O18: a write and a read look for their band first. -/
theorem noSuchBand : Obligations.NoSuchBand := by
  intro s b d hb
  have outside : ¬ b < Config.numBands := not_lt.2 hb
  refine ⟨fun r => ⟨?_, ?_⟩, fun r => ?_⟩
  · rw [exec_writeBand, State.writeBand, dif_neg outside]
  · rw [exec_readBand, State.readBand, dif_neg outside]
  · rw [exec_readDisplay, State.readDisplay, dif_neg outside]

/-! ### Global writes and reads -/

theorem State.writeGlobal_of_none {s : State} {r : GlobalReg} {d : DataWord} (h : r.store d s.pg = none) :
    s.writeGlobal r d = s := by
  rw [State.writeGlobal, h]

theorem State.writeGlobal_of_some {s : State} {r : GlobalReg} {d : DataWord} {x : GlobalRegs}
    (h : r.store d s.pg = some x) : s.writeGlobal r d = ({ s with pg := x }).flagGlobal r.cls := by
  rw [State.writeGlobal, h]

/-- Settles O19: the value is the write decode of the register's kind, and the flag is that of its class. -/
theorem wrgCode : Obligations.WrgCode := by
  intro s d
  have slow : (decodeEnum 1 d == 1) = decide (1 ≤ d.toNat) := by
    rw [Bool.eq_iff_iff, beq_iff_eq, decide_eq_true_iff, decodeEnum]
    omega
  simp only [← decodeBool_eq, ← slow]
  refine ⟨fun y h => ?_, ?_⟩
  · rw [← Structure.ofCode_eq h]
    exact congrArg Host.Outcome.next (State.writeGlobal_of_some (r := .struct) rfl)
  · exact ⟨congrArg Host.Outcome.next (State.writeGlobal_of_some (r := .zeroLat) rfl),
      congrArg Host.Outcome.next (State.writeGlobal_of_some (r := .scPresent) rfl),
      congrArg Host.Outcome.next (State.writeGlobal_of_some (r := .solo) rfl),
      congrArg Host.Outcome.next (State.writeGlobal_of_some (r := .effectOn) rfl),
      congrArg Host.Outcome.next (State.writeGlobal_of_some (r := .hq) rfl),
      congrArg Host.Outcome.next (State.writeGlobal_of_some (r := .phaseFlip) rfl),
      congrArg Host.Outcome.next (State.writeGlobal_of_some (r := .sgcOn) rfl),
      congrArg Host.Outcome.next (State.writeGlobal_of_some (r := .measure) rfl),
      congrArg Host.Outcome.next (State.writeGlobal_of_some (r := .decaySel) rfl)⟩

/-- R95, R110: a global f32 register stores its data as the f32 write decode says. -/
theorem storesGlobal_of_store {s : State} (r : GlobalReg) {mk : DataWord → Instr}
    {put : Rat → GlobalRegs → GlobalRegs} {flag : State → State} {lo hi : Rat} (hmk : mk = r.write)
    (hf : ∀ t : State, t.flagGlobal r.cls = flag t)
    (h : ∀ d x, r.store d x = (decodeF32 lo hi d).map fun v => put v x) : StoresGlobal s mk put flag lo hi := by
  intro d
  simp only [hmk, exec_writeGlobal, ← hf]
  refine ⟨fun e => congrArg _ (State.writeGlobal_of_none ?_), fun e => congrArg _ (State.writeGlobal_of_some ?_),
    fun e => congrArg _ (State.writeGlobal_of_some ?_), fun v e => congrArg _ (State.writeGlobal_of_some ?_)⟩
  · rw [h, decodeF32_nan e, Option.map_none]
  · rw [h, decodeF32_inf e, Option.map_some, if_pos rfl]
  · rw [h, decodeF32_inf e, Option.map_some, if_neg Bool.false_ne_true]
  · rw [h, decodeF32_fin e, Option.map_some]

/-- Settles O20: each register stores the f32 write decode with its range. -/
theorem wrgF32 : Obligations.WrgF32 := fun _ =>
  ⟨storesGlobal_of_store .lookahead rfl (fun _ => rfl) fun _ _ => rfl,
    storesGlobal_of_store .trim rfl (fun _ => rfl) fun _ _ => rfl,
    storesGlobal_of_store .rmsMs rfl (fun _ => rfl) fun _ _ => rfl⟩

/-- Settles O21: by the register. -/
theorem rdgStaged : Obligations.RdgStaged := fun s =>
  ⟨exec_readGlobal .struct s, exec_readGlobal .zeroLat s, exec_readGlobal .lookahead s, exec_readGlobal .scPresent s,
    exec_readGlobal .solo s, exec_readGlobal .trim s, exec_readGlobal .effectOn s, exec_readGlobal .hq s,
    exec_readGlobal .phaseFlip s, exec_readGlobal .sgcOn s, exec_readGlobal .measure s, exec_readGlobal .rmsMs s,
    exec_readGlobal .decaySel s⟩

theorem mul_toNat_eq_ite (k : Nat) (b : Bool) : k * b.toNat = if b then k else 0 := by
  cases b
  · exact k.mul_zero
  · exact k.mul_one

/-- R158: STATUS, bit by bit. -/
theorem State.statusWord_eq (s : State) : s.statusWord = BitVec.ofNat 32
    ((if s.prepared then 1 else 0) + (if s.pendS then 2 else 0) + (if s.pendG then 4 else 0) + (if s.pendB then 8 else 0) +
      (if s.gdirty then 16 else 0)) := by
  simp only [← mul_toNat_eq_ite, one_mul]
  rfl

/-- R291: EFF_STRUCT is MINPHASE where zero latency overrides a correcting structure. -/
theorem zext32_effStruct (cg : GlobalRegs) : zext32 (effStruct cg).code =
    if cg.zeroLat = true ∧ (cg.struct = .matched ∨ cg.struct = .mixed ∨ cg.struct = .linear) then 0
    else BitVec.ofNat 32 cg.struct.code := by
  unfold effStruct
  cases cg.zeroLat <;> cases cg.struct <;> rfl

/-- Settles O22: each read answers its item of the state; STATUS and EFF_STRUCT are put together. -/
theorem rdgReadOnly : Obligations.RdgReadOnly := by
  intro s
  rw [← zext32_effStruct, ← State.statusWord_eq]
  exact ⟨rfl, rfl, rfl, rfl, rfl, rfl, rfl, rfl⟩

/-! ### Reading back what was written -/

theorem encodeBool_decodeBool (d : DataWord) : encodeBool (decodeBool d) = if d = 0 then 0 else 1 := by
  rw [decodeBool_eq, encodeBool]
  by_cases h : d = 0 <;> simp [h]

theorem zext32_toNat (d : DataWord) : zext32 d.toNat = d := (BitVec.ofNat_toNat 32 d).trans (BitVec.setWidth_eq d)

theorem zext32_min (d : DataWord) (hi : Nat) : zext32 (min d.toNat hi) = if d.toNat ≤ hi then d else BitVec.ofNat 32 hi := by
  split
  next h => rw [min_eq_left h, zext32_toNat]
  next h => rw [min_eq_right (not_le.1 h).le]; rfl

theorem zext32_legalOrder (d : DataWord) : zext32 (legalOrder d.toNat) =
    if d.toNat ≤ 1 then 1 else if 16 ≤ d.toNat then 16 else if d.toNat % 2 = 0 then d else d - 1 := by
  unfold legalOrder
  split
  · rfl
  split
  · rfl
  split
  · exact zext32_toNat d
  · apply BitVec.eq_of_toNat_eq
    have below := d.isLt
    rw [zext32, BitVec.toNat_ofNat, BitVec.toNat_sub, show (1 : DataWord).toNat = 1 from rfl]
    omega

theorem map_f32enc_decodeF32 (lo hi : Rat) (d : DataWord) :
    (decodeF32 lo hi d).map (fun v => f32enc v) = (RegKind.f32 lo hi).readBack d := by
  unfold RegKind.readBack
  cases h : f32val d with
  | nan => rw [decodeF32_nan h]; rfl
  | inf negative => rw [decodeF32_inf h]; cases negative <;> rfl
  | fin v => rw [decodeF32_fin h]; rfl

/-- R162: what a band register reads back as after a write, by its kind. -/
theorem BandReg.load_store (r : BandReg) (d : DataWord) (x : BandRegs) :
    (r.store d x).map (fun y => r.load y) = r.kind.readBack d := by
  cases r
  case active | bypass | dynOn | relThresh | sideSwap | learn => exact congrArg some (encodeBool_decodeBool d)
  case ftype =>
    refine congrArg some ((congrArg zext32 (FType.code_ofCode (min_le_right ..))).trans (zext32_min d 8))
  case stereo =>
    refine congrArg some ((congrArg zext32 (Stereo.code_ofCode (min_le_right ..))).trans (zext32_min d 4))
  case order => exact congrArg some (zext32_legalOrder d)
  all_goals exact (Option.map_map ..).trans (map_f32enc_decodeF32 _ _ d)

/-- R162: what a global register reads back as after a write, by its kind. -/
theorem GlobalReg.load_store (r : GlobalReg) (d : DataWord) (x : GlobalRegs) :
    (r.store d x).map (fun y => r.load y) = r.kind.readBack d := by
  cases r
  case zeroLat | scPresent | effectOn | hq | phaseFlip | sgcOn | measure => exact congrArg some (encodeBool_decodeBool d)
  case struct =>
    refine congrArg some ((congrArg zext32 (Structure.code_ofCode (min_le_right ..))).trans (zext32_min d 5))
  case solo => exact congrArg some (zext32_min d 16)
  case decaySel =>
    refine congrArg some ?_
    rw [← zext32_min]
    have code : min d.toNat 1 = 0 ∨ min d.toNat 1 = 1 := by omega
    rcases code with h | h <;> simp [GlobalReg.load, decodeEnum, h, encodeBool, zext32]
  all_goals exact (Option.map_map ..).trans (map_f32enc_decodeF32 _ _ d)

theorem State.flagBand_staged (s : State) (b c : Fin 16) (k : RegClass) :
    (s.flagBand b k).bands[c].staged = s.bands[c].staged := by
  cases k
  case n =>
    simp only [State.flagBand, Fin.getElem_fin, Vector.getElem_set]
    split
    next e => simp [e]
    next => rfl
  all_goals rfl

/-- Settles O23: a write that is not ignored stores a value that loads as the word read back, and the read loads it. -/
theorem readBack : Obligations.ReadBack := by
  refine ⟨fun s b r d => ?_, fun s r d => ?_⟩
  · rw [← r.load_store d s.bands[b].staged, exec_writeBand]
    refine ⟨fun h => congrArg _ (State.writeBand_of_none (Option.map_eq_none_iff.1 h)), fun w h => ⟨_, rfl, ?_⟩⟩
    obtain ⟨x, stored, rfl⟩ := Option.map_eq_some_iff.1 h
    rw [exec_readBand_fin, State.writeBand_of_some stored, State.flagBand_staged]
    simp
  · rw [← r.load_store d s.pg, exec_writeGlobal]
    refine ⟨fun h => congrArg _ (State.writeGlobal_of_none (Option.map_eq_none_iff.1 h)), fun w h => ⟨_, rfl, ?_⟩⟩
    obtain ⟨x, stored, rfl⟩ := Option.map_eq_some_iff.1 h
    rw [exec_readGlobal, State.writeGlobal_of_some stored, State.flagGlobal_pg]

/-! ### What register commands leave alone -/

theorem State.respond_audioPart (s : State) (r : DataWord) : (s.respond r).audioPart = s.audioPart := by
  unfold State.respond
  split <;> rfl

theorem State.flagBand_audioPart (s : State) (b : Fin 16) (c : RegClass) : (s.flagBand b c).audioPart = s.audioPart := by
  cases c
  case n =>
    have same := mapV_set Band.audioPart s.bands b.isLt (x := { s.bands[b] with dirty := true }) rfl
    exact congrArg (fun v => { s.audioPart with bands := v }) same
  all_goals rfl

theorem State.writeBand_audioPart (s : State) (r : BandReg) (b : Nat) (d : DataWord) :
    (s.writeBand r b d).audioPart = s.audioPart := by
  rcases s.writeBand_cases r b d with e | ⟨hb, x, -, e⟩ <;> rw [e]
  rw [State.flagBand_audioPart]
  have same := mapV_set Band.audioPart s.bands hb (x := { s.bands[b] with staged := x }) rfl
  exact congrArg (fun v => { s.audioPart with bands := v }) same

theorem State.writeGlobal_audioPart (s : State) (r : GlobalReg) (d : DataWord) :
    (s.writeGlobal r d).audioPart = s.audioPart := by
  rcases s.writeGlobal_cases r d with e | ⟨x, -, e⟩ <;> rw [e]
  cases r.cls <;> rfl

/-- Settles O24: by cases over the commands; what is left are responses and register writes. -/
theorem registerCommandsLeaveAudio : Obligations.RegisterCommandsLeaveAudio := by
  intro i s t hr hp hn h
  obtain ⟨-, rfl⟩ | ⟨e, -⟩ | ⟨m, f, e, -⟩ | ⟨n, e, -⟩ | ⟨r, rfl⟩ | ⟨r, b, d, rfl⟩ | ⟨r, d, rfl⟩ := exec_cases_by_command h
  · rfl
  · exact absurd e hr
  · exact absurd e (hp m f)
  · exact absurd e (hn n)
  · exact s.respond_audioPart r
  · exact s.writeBand_audioPart r b d
  · exact s.writeGlobal_audioPart r d

/-! ### One step -/

/-- Settles O5: a step decodes the head of the stream. -/
theorem stepRunsDecoded : Obligations.StepRunsDecoded := by
  intro s c rest i hc hd
  rw [step, hc]
  dsimp only
  rw [hd]
  rfl

/-- Settles O6: a reserved word has the effect R100 gives it, a response goes to the port of its command, and with no command
there is nothing to decode. -/
theorem stepReserved : Obligations.StepReserved := by
  refine ⟨fun s c rest r hc hd => ?_, fun s r => ⟨fun h => ?_, fun h => ?_⟩, fun s hc => ?_⟩
  · rw [step, hc]
    dsimp only
    rw [hd]
    rfl
  · rw [State.respond, h]
  · rw [State.respond, h]
  · rw [step, hc]

end Sys2Proof.Machine
end

section
/-! PROOFS. What the operations on one band can do, said once each: the class-N step (45_controller.md R337), a detector update
(43_detector_histogram.md R269), the frames of a PROCESS, and the register writes. -/

namespace Sys2Proof.Machine

section

set_option linter.unusedSectionVars false

variable {V : Type} [Zero V] [One V] [NatCast V] [Add V] [Sub V] [Neg V] [Mul V] [Div V]
  [LT V] [LE V] [BEq V] [Min V] [Max V] [DecidableLT V] [DecidableLE V] {C : Config V}

/-! ### The class-N step of a band -/

/-- A band after its class-N step but for its learning (R337): class N transferred, DIRTY cleared, and its filter and detector as
given. -/
def Band.settled (b : Band V) (fstate : PerSlot (List (SecState V))) (det : Detector V) (curT curLevel : V) : Band V :=
  { b with
    dirty := false, comm := b.comm.takeN b.staged, fstate := fstate, det := det
    disp := { b.disp with curT := curT, curLevel := curLevel } }

/-- The detector of a band after its class-N step (R337): it goes on while the band stays dynamic, starts anew where the band
becomes dynamic, and has factor 0 where the band is static. -/
def Band.DetectorAfterN (C : Config V) (w : Nat) (b : Band V) (det : Detector V) : Prop :=
  b.staged.dynOn = true ∧ (det = b.det ∧ b.comm.dynOn = true ∨ det = Detector.zero w) ∨
  b.staged.dynOn = false ∧ det = { b.det with t := 0 }

/-- R337: everything the class-N step of a band can do. -/
theorem Band.commitN_cases (w : Nat) (b : Band V) : ∃ fstate det curT curLevel,
    (fstate = b.fstate ∨ fstate = fstateZero) ∧ b.DetectorAfterN C w det ∧
    (b.staged.learn = true ∧ b.comm.learn = false ∧ b.commitN w = (b.settled fstate det curT curLevel).clearHist ∨
      b.staged.learn = false ∧ b.comm.learn = true ∧ b.commitN w = (b.settled fstate det curT curLevel).stopLearning ∨
      b.staged.learn = b.comm.learn ∧ b.commitN w = b.settled fstate det curT curLevel) := by
  unfold Band.commitN
  extract_lets c b0 b1 b2 _ _ b3
  obtain ⟨fstate, hf, e1⟩ : ∃ fstate, (fstate = b.fstate ∨ fstate = fstateZero) ∧
      b1 = b.settled fstate b.det b.disp.curT b.disp.curLevel := by
    unfold b1
    split
    · exact ⟨_, .inr rfl, rfl⟩
    · exact ⟨_, .inl rfl, rfl⟩
  clear_value b1
  subst e1
  obtain ⟨det2, curT2, curLevel2, hd2, e2⟩ : ∃ det curT curLevel,
      ((b.staged.dynOn && !b.comm.dynOn) = true ∧ det = Detector.zero w ∨
        (b.staged.dynOn && !b.comm.dynOn) = false ∧ det = b.det) ∧ b2 = b.settled fstate det curT curLevel := by
    unfold b2
    split
    next starts => exact ⟨_, _, _, .inl ⟨starts, rfl⟩, rfl⟩
    next stays => exact ⟨_, _, _, .inr ⟨Bool.eq_false_iff.2 stays, rfl⟩, rfl⟩
  clear_value b2
  subst e2
  obtain ⟨det, curT, curLevel, hd, e3⟩ : ∃ det curT curLevel, b.DetectorAfterN C w det ∧
      b3 = b.settled fstate det curT curLevel := by
    have dyn : c.dynOn = b.staged.dynOn := rfl
    unfold b3 Band.DetectorAfterN
    rw [dyn]
    rcases hd2 with ⟨starts, rfl⟩ | ⟨stays, rfl⟩
    · obtain ⟨dynamic, -⟩ := Bool.and_eq_true_iff.1 starts
      rw [dynamic]
      exact ⟨_, _, _, .inl ⟨rfl, .inr rfl⟩, rfl⟩
    · cases dynamic : b.staged.dynOn with
      | false => exact ⟨_, _, _, .inr ⟨rfl, rfl⟩, rfl⟩
      | true =>
        rw [dynamic, Bool.true_and, Bool.not_eq_false'] at stays
        exact ⟨_, _, _, .inl ⟨rfl, .inl ⟨rfl, stays⟩⟩, rfl⟩
  have learn : c.learn = b.staged.learn := rfl
  refine ⟨fstate, det, curT, curLevel, hf, hd, ?_⟩
  rw [e3, learn]
  cases b.staged.learn <;> cases b.comm.learn
  · exact .inr (.inr ⟨rfl, rfl⟩)
  · exact .inr (.inl ⟨rfl, rfl, rfl⟩)
  · exact .inl ⟨rfl, rfl, rfl⟩
  · exact .inr (.inr ⟨rfl, rfl⟩)

/-- Stop learning writes THRESH and KNEE of both copies alike (R277), or nothing. -/
theorem Band.stopLearning_cases (b : Band V) : b.stopLearning = b ∨ ∃ thresh knee, b.stopLearning = { b with
    comm := { b.comm with thresh := thresh, knee := knee }, staged := { b.staged with thresh := thresh, knee := knee } } := by
  unfold Band.stopLearning
  dsimp only
  split
  · exact .inr ⟨_, _, rfl⟩
  · exact .inl rfl

/-- The class-N step writes no coefficients. -/
@[simp] theorem Band.commitN_coefs (w : Nat) (b : Band V) : (b.commitN w).coefs = b.coefs := by
  obtain ⟨_, _, _, _, -, -, ⟨-, -, e⟩ | ⟨-, -, e⟩ | ⟨-, e⟩⟩ := b.commitN_cases w <;> rw [e]
  · rfl
  · unfold Band.stopLearning
    dsimp only
    split <;> rfl
  · rfl

/-! ### The structural steps of a band -/

/-- R335: the class-G step of a band takes ACTIVE and STEREO over and, on a transition, zeroes filter and detector. -/
theorem Band.commitG_cases (w : Nat) (b : Band V) : ∃ b1 : Band V,
    b1 = { b with comm := { b.comm with active := b.staged.active, stereo := b.staged.stereo } } ∧
    (b.commitG w = b1 ∨ b.commitG w = b1.zeroFilter.resetDetector w) := by
  unfold Band.commitG
  dsimp only
  split
  · exact ⟨_, rfl, .inr rfl⟩
  · exact ⟨_, rfl, .inl rfl⟩

/-- R336: the class-B step of a band takes BYPASS over and, where it goes 1 to 0, zeroes the filter. -/
theorem Band.commitB_cases (b : Band V) : ∃ b1 : Band V,
    b1 = { b with comm := { b.comm with bypass := b.staged.bypass } } ∧ (b.commitB = b1 ∨ b.commitB = b1.zeroFilter) := by
  unfold Band.commitB
  dsimp only
  split
  · exact ⟨_, rfl, .inr rfl⟩
  · exact ⟨_, rfl, .inl rfl⟩

/-! ### A detector update -/

/-- The histogram and its percentile registers after an update: kept, or a value pushed while LEARN is set (R275). -/
def Band.HistAfterUpdate (C : Config V) (b : Band V) (disp : Display V) (hist : Hist V) : Prop :=
  hist = b.hist ∧ disp.histP05 = b.disp.histP05 ∧ disp.histP50 = b.disp.histP50 ∧ disp.histP95 = b.disp.histP95 ∨
  b.comm.learn = true ∧ ∃ v slow, hist = b.hist.push v (histDecay slow)

/-- R278: what publishing the level can do. -/
theorem Band.publishLevel_cases (ok : Bool) (b : Band V) : ∃ disp : Display V,
    (disp.histP05 = b.disp.histP05 ∧ disp.histP50 = b.disp.histP50 ∧ disp.histP95 = b.disp.histP95) ∧
    b.publishLevel ok = { b with disp := disp } := by
  cases ok with
  | false => exact ⟨b.disp, ⟨rfl, rfl, rfl⟩, rfl⟩
  | true => exact ⟨{ b.disp with curT := b.det.t, curLevel := b.det.ls }, ⟨rfl, rfl, rfl⟩, rfl⟩

/-- R275: what LEARN.STEP can do. -/
theorem Band.learnStep_cases (cg : GlobalRegs V) (lb ref : V) (ok : Bool) (b : Band V) :
    ∃ disp hist, b.HistAfterUpdate C disp hist ∧ b.learnStep cg lb ref ok = { b with disp := disp, hist := hist } := by
  unfold Band.learnStep
  split
  next learning =>
    have learn : b.comm.learn = true := (Bool.and_eq_true_iff.1 learning).1
    cases ok with
    | false => exact ⟨_, _, .inr ⟨learn, _, _, rfl⟩, rfl⟩
    | true => exact ⟨_, _, .inr ⟨learn, _, _, rfl⟩, rfl⟩
  next => exact ⟨b.disp, b.hist, .inl ⟨rfl, rfl, rfl, rfl⟩, rfl⟩

/-- R269: everything an update of a band can do. -/
theorem Band.update_cases (cg : GlobalRegs V) (fs w n : Nat) (push ok : Bool) (sums : PerMode V) (b : Band V) :
    ∃ ls ov width disp hist, b.HistAfterUpdate C disp hist ∧ b.update cg fs w n push ok sums =
      { b with det := { b.det with ls := ls, t := knee ov width }, disp := disp, hist := hist } := by
  unfold Band.update
  extract_lets lb ref b1
  obtain ⟨ls, ov, width, envelope⟩ : ∃ ls ov width,
      b.envelope fs n lb ref = { b with det := { b.det with ls := ls, t := knee ov width } } := ⟨_, _, _, rfl⟩
  obtain ⟨disp, ⟨h05, h50, h95⟩, published⟩ := (b.envelope fs n lb ref).publishLevel_cases ok
  rw [envelope] at published h05 h50 h95
  have e1 : b1 = { b with det := { b.det with ls := ls, t := knee ov width }, disp := disp } := by
    unfold b1
    rw [envelope, published]
  clear_value b1
  subst e1
  split
  · obtain ⟨disp', hist, kept, learned⟩ := Band.learnStep_cases (C := C) cg lb ref ok
      { b with det := { b.det with ls := ls, t := knee ov width }, disp := disp }
    refine ⟨ls, ov, width, disp', hist, ?_, learned⟩
    rcases kept with ⟨e, k05, k50, k95⟩ | pushed
    · exact .inl ⟨e, k05.trans h05, k50.trans h50, k95.trans h95⟩
    · exact .inr pushed
  · exact ⟨ls, ov, width, disp, b.hist, .inl ⟨rfl, h05, h50, h95⟩, rfl⟩

/-! ### The frames of a PROCESS -/

/-- The frames keep a band's DIRTY flag. -/
theorem processFrames_dirty (s : State V) (fr : List (Frame V)) {j : Nat} (hj : j < Config.numBands) :
    (processFrames s fr).bands[j].dirty = s.bands[j].dirty := by
  refine processFrames_keepsBand (P := fun c => c.dirty = s.bands[j].dirty) ?_ fr hj rfl
  constructor
  case tick => exact fun _ _ _ h => h
  case update => exact fun _ _ _ _ _ _ b _ h => by simpa using h
  case sections =>
    intro fs t c h
    unfold Band.sectionsAt
    split <;> exact h
  case filter => exact fun _ _ _ _ h => h

/-! ### Register writes -/

theorem RegClass.beq_eq_decide (c k : RegClass) : (c == k) = decide (c = k) := rfl

theorem BandReg.cls_ne_s (r : BandReg) : r.cls ≠ .s := by cases r <;> decide

theorem GlobalReg.cls_ne_g (r : GlobalReg) : r.cls ≠ .g := by cases r <;> decide

/-- R108: a WRB changes nothing, or stores the value and sets the flag of the register's class. -/
theorem State.writeBand_eq (s : State V) (r : BandReg) (band : Nat) (data : DataWord) :
    s.writeBand r band data = s ∨
      ∃ (h : band < Config.numBands) (x : BandRegs V), r.store data s.bands[band].staged = some x ∧
        s.writeBand r band data = { s with
          bands := s.bands.set band { s.bands[band] with staged := x, dirty := s.bands[band].dirty || r.cls == .n }
          pendG := s.pendG || r.cls == .g
          pendB := s.pendB || r.cls == .b } := by
  rcases s.writeBand_cases r band data with e | ⟨h, x, stored, e⟩
  · exact .inl e
  refine .inr ⟨h, x, stored, e.trans ?_⟩
  cases hc : r.cls
  case s => exact absurd hc r.cls_ne_s
  case n => simp [State.flagBand, RegClass.beq_eq_decide]
  all_goals simp [State.flagBand, RegClass.beq_eq_decide]

/-- R110: a WRG changes nothing, or stores the value and sets the flag of the register's class. -/
theorem State.writeGlobal_eq (s : State V) (r : GlobalReg) (data : DataWord) :
    s.writeGlobal r data = s ∨
      ∃ x, r.store data s.pg = some x ∧ s.writeGlobal r data = { s with
        pg := x, pendS := s.pendS || r.cls == .s, pendB := s.pendB || r.cls == .b, gdirty := s.gdirty || r.cls == .n } := by
  rcases s.writeGlobal_cases r data with e | ⟨x, stored, e⟩
  · exact .inl e
  refine .inr ⟨x, stored, e.trans ?_⟩
  cases hc : r.cls
  case g => exact absurd hc r.cls_ne_g
  all_goals simp [State.flagGlobal, RegClass.beq_eq_decide]

/-- A WRB writes staged registers and DIRTY of a band, and nothing else of it. -/
theorem State.writeBand_band (s : State V) (r : BandReg) (band : Nat) (data : DataWord) {j : Nat} (hj : j < Config.numBands) :
    ∃ staged dirty, (s.writeBand r band data).bands[j] = { s.bands[j] with staged := staged, dirty := dirty } := by
  rcases s.writeBand_eq r band data with e | ⟨h, x, -, e⟩ <;> rw [e]
  · exact ⟨s.bands[j].staged, s.bands[j].dirty, rfl⟩
  dsimp only
  rw [Vector.getElem_set]
  split
  next same => subst same; exact ⟨_, _, rfl⟩
  next => exact ⟨s.bands[j].staged, s.bands[j].dirty, rfl⟩

theorem State.writeBand_comm (s : State V) (r : BandReg) (band : Nat) (data : DataWord) {j : Nat} (hj : j < Config.numBands) :
    (s.writeBand r band data).bands[j].comm = s.bands[j].comm := by
  obtain ⟨_, _, e⟩ := s.writeBand_band r band data hj
  rw [e]

/-- What a store into a band's file leaves alone: the registers of the other classes. -/
theorem BandReg.store_frame {r : BandReg} {d : DataWord} {x y : BandRegs V} (h : r.store d x = some y) :
    (r.cls ≠ .g → y.active = x.active ∧ y.stereo = x.stereo) ∧ (r.cls ≠ .b → y.bypass = x.bypass) ∧
    (r.cls ≠ .n → ∀ c : BandRegs V, c.takeN y = c.takeN x) := by
  cases r
  case active | stereo | bypass =>
    obtain rfl := Option.some.inj h
    simp [BandReg.cls, BandRegs.takeN]
  case ftype | order | dynOn | relThresh | sideSwap | learn =>
    obtain rfl := Option.some.inj h
    simp [BandReg.cls]
  all_goals
    obtain ⟨v, -, rfl⟩ := Option.map_eq_some_iff.1 h
    simp [BandReg.cls]

/-- What a store into the global file leaves alone: the registers of the other classes. -/
theorem GlobalReg.store_frame {r : GlobalReg} {d : DataWord} {x y : GlobalRegs V} (h : r.store d x = some y) :
    (r.cls ≠ .s → y.struct = x.struct ∧ y.zeroLat = x.zeroLat ∧ y.lookahead = x.lookahead) ∧
    (r.cls ≠ .b → y.solo = x.solo ∧ y.effectOn = x.effectOn) ∧
    (r.cls ≠ .n → ∀ c : GlobalRegs V, c.takeN y = c.takeN x) := by
  cases r
  case lookahead | trim | rmsMs =>
    obtain ⟨v, -, rfl⟩ := Option.map_eq_some_iff.1 h
    simp [GlobalReg.cls, GlobalRegs.takeN]
  all_goals
    obtain rfl := Option.some.inj h
    simp [GlobalReg.cls, GlobalRegs.takeN]

end

end Sys2Proof.Machine
end

section
/-! PROOFS. What every step keeps, in every configuration and over every type of values: no write is lost (20_memory.md R71,
R72), the sections are a0-normalised (10_state.md R44), and LATENCY is that of the committed registers (45_controller.md
R352). -/

namespace Sys2Proof.Machine

section

set_option linter.unusedSectionVars false

variable {V : Type} [Zero V] [One V] [NatCast V] [Add V] [Sub V] [Neg V] [Mul V] [Div V]
  [LT V] [LE V] [BEq V] [Min V] [Max V] [DecidableLT V] [DecidableLE V] {C : Config V}

/-! ### No write is lost -/

/-- A band register whose flag is clear is in force, with PEND_G and PEND_B given (20_memory.md R71). -/
structure Band.InForce (pendG pendB : Bool) (b : Band V) : Prop where
  classG : pendG = false → b.comm.active = b.staged.active ∧ b.comm.stereo = b.staged.stereo
  classB : pendB = false → b.comm.bypass = b.staged.bypass
  classN : b.dirty = false → b.comm = b.comm.takeN b.staged

/-- A global register whose flag is clear is in force (20_memory.md R71). -/
structure State.GlobalsInForce (s : State V) : Prop where
  classS : s.pendS = false → s.cg.struct = s.pg.struct ∧ s.cg.zeroLat = s.pg.zeroLat ∧ s.cg.lookahead = s.pg.lookahead
  classB : s.pendB = false → s.cg.solo = s.pg.solo ∧ s.cg.effectOn = s.pg.effectOn
  classN : s.gdirty = false → s.cg = s.cg.takeN s.pg

theorem State.nothingLost_iff (s : State V) :
    s.NothingLost ↔ s.GlobalsInForce ∧ ∀ j (hj : j < Config.numBands), s.bands[j].InForce s.pendG s.pendB := by
  constructor
  · intro h
    exact ⟨⟨h.classS, fun p => (h.classB p).2, h.globals⟩,
      fun j hj => ⟨fun p => h.classG p ⟨j, hj⟩, fun p => (h.classB p).1 ⟨j, hj⟩, h.bands ⟨j, hj⟩⟩⟩
  · rintro ⟨globals, bands⟩
    exact ⟨globals.classS, fun p b => (bands b b.isLt).classG p,
      fun p => ⟨fun b => (bands b b.isLt).classB p, globals.classB p⟩, fun b => (bands b b.isLt).classN, globals.classN⟩

/-- A band whose copies are equal loses nothing, whatever the flags. -/
theorem Band.InForce.of_comm_eq_staged {pendG pendB : Bool} {b : Band V} (h : b.comm = b.staged) : b.InForce pendG pendB :=
  ⟨fun _ => by rw [h]; exact ⟨rfl, rfl⟩, fun _ => by rw [h], fun _ => by rw [h]; rfl⟩

/-- Only registers and flags count. -/
theorem Band.InForce.congr {pendG pendB : Bool} {b c : Band V} (h : b.InForce pendG pendB) (staged : c.staged = b.staged)
    (comm : c.comm = b.comm) (dirty : c.dirty = b.dirty) : c.InForce pendG pendB := by
  constructor <;> rw [staged, comm]
  · exact h.classG
  · exact h.classB
  · exact fun clean => h.classN (dirty.symm.trans clean)

theorem Band.InForce.designOf {pendG pendB : Bool} {b c : Band V} (h : b.InForce pendG pendB) (d : b.DesignOf c) :
    c.InForce pendG pendB := by
  obtain ⟨_, _, rfl⟩ := d
  exact h.congr rfl rfl rfl

theorem Band.InForce.commitG {pendG pendB : Bool} {b : Band V} (h : b.InForce pendG pendB) (w : Nat) :
    (b.commitG w).InForce false pendB := by
  have key : ({ b with comm := { b.comm with active := b.staged.active, stereo := b.staged.stereo } } : Band V).InForce
      false pendB := by
    refine ⟨fun _ => ⟨rfl, rfl⟩, h.classB, fun clean => ?_⟩
    dsimp only
    rw [h.classN clean]
    rfl
  obtain ⟨b1, rfl, e | e⟩ := b.commitG_cases (C := C) w <;> rw [e]
  · exact key
  · exact key.congr rfl rfl rfl

theorem Band.InForce.commitB {pendG pendB : Bool} {b : Band V} (h : b.InForce pendG pendB) :
    b.commitB.InForce pendG false := by
  have key : ({ b with comm := { b.comm with bypass := b.staged.bypass } } : Band V).InForce pendG false := by
    refine ⟨h.classG, fun _ => rfl, fun clean => ?_⟩
    dsimp only
    rw [h.classN clean]
    rfl
  obtain ⟨b1, rfl, e | e⟩ := b.commitB_cases <;> rw [e]
  · exact key
  · exact key.congr rfl rfl rfl

/-- The class-N step puts every class-N register in force; stop learning writes both copies (43_detector_histogram.md R277). -/
theorem Band.InForce.commitN {pendG pendB : Bool} {b : Band V} (h : b.InForce pendG pendB) (w : Nat) :
    (b.commitN w).InForce pendG pendB := by
  have settled (f d t l) : (b.settled f d t l).InForce pendG pendB := ⟨h.classG, h.classB, fun _ => rfl⟩
  obtain ⟨f, d, t, l, -, -, ⟨-, -, e⟩ | ⟨-, -, e⟩ | ⟨-, e⟩⟩ := b.commitN_cases (C := C) w <;> rw [e]
  · exact (settled f d t l).congr rfl rfl rfl
  · rcases (b.settled f d t l).stopLearning_cases (C := C) with e | ⟨thresh, knee, e⟩ <;> rw [e]
    · exact settled f d t l
    · exact ⟨h.classG, h.classB, fun _ => rfl⟩
  · exact settled f d t l

theorem State.NothingLost.writeBand {s : State V} (h : s.NothingLost) (r : BandReg) (band : Nat) (d : DataWord) :
    (s.writeBand r band d).NothingLost := by
  rcases s.writeBand_eq r band d with e | ⟨hb, x, stored, e⟩ <;> rw [e]
  · exact h
  obtain ⟨globals, bands⟩ := s.nothingLost_iff.1 h
  obtain ⟨keptG, keptB, keptN⟩ := BandReg.store_frame stored
  refine (State.nothingLost_iff _).2 ⟨⟨globals.classS, fun p => globals.classB (Bool.or_eq_false_iff.1 p).1, globals.classN⟩,
    fun j hj => ?_⟩
  dsimp only
  rw [Vector.getElem_set]
  split
  next same =>
    subst same
    refine ⟨fun p => ?_, fun p => ?_, fun p => ?_⟩ <;> obtain ⟨clear, other⟩ := Bool.or_eq_false_iff.1 p <;>
      rw [beq_eq_false_iff_ne] at other
    · rw [(keptG other).1, (keptG other).2]
      exact (bands band hb).classG clear
    · rw [keptB other]
      exact (bands band hb).classB clear
    · rw [keptN other]
      exact (bands band hb).classN clear
  next =>
    exact ⟨fun p => (bands j hj).classG (Bool.or_eq_false_iff.1 p).1, fun p => (bands j hj).classB (Bool.or_eq_false_iff.1 p).1,
      (bands j hj).classN⟩

theorem State.NothingLost.writeGlobal {s : State V} (h : s.NothingLost) (r : GlobalReg) (d : DataWord) :
    (s.writeGlobal r d).NothingLost := by
  rcases s.writeGlobal_eq r d with e | ⟨x, stored, e⟩ <;> rw [e]
  · exact h
  obtain ⟨globals, bands⟩ := s.nothingLost_iff.1 h
  obtain ⟨keptS, keptB, keptN⟩ := GlobalReg.store_frame stored
  refine (State.nothingLost_iff _).2 ⟨⟨fun p => ?_, fun p => ?_, fun p => ?_⟩, fun j hj => ?_⟩
  · obtain ⟨clear, other⟩ := Bool.or_eq_false_iff.1 p
    obtain ⟨struct, zeroLat, lookahead⟩ := keptS (beq_eq_false_iff_ne.1 other)
    rw [struct, zeroLat, lookahead]
    exact globals.classS clear
  · obtain ⟨clear, other⟩ := Bool.or_eq_false_iff.1 p
    obtain ⟨solo, effectOn⟩ := keptB (beq_eq_false_iff_ne.1 other)
    rw [solo, effectOn]
    exact globals.classB clear
  · obtain ⟨clear, other⟩ := Bool.or_eq_false_iff.1 p
    rw [keptN (beq_eq_false_iff_ne.1 other)]
    exact globals.classN clear
  · exact ⟨(bands j hj).classG, fun p => (bands j hj).classB (Bool.or_eq_false_iff.1 p).1, (bands j hj).classN⟩

theorem State.nothingLost_resetIn (io : Ports) : ({ State.resetIn C with io := io } : State V).NothingLost := by
  refine (State.nothingLost_iff _).2 ⟨⟨fun _ => ⟨rfl, rfl, rfl⟩, fun _ => ⟨rfl, rfl⟩, fun _ => rfl⟩, fun j hj => ?_⟩
  refine .of_comm_eq_staged ?_
  simp [State.resetIn, Band.reset]

/-- R330: PREPARE commits every register. -/
theorem State.nothingLost_prepareWith (s : State V) (m f : Nat) : (s.prepareWith m f).NothingLost := by
  have bands := s.prepareWith_keepsBands (C := C) (P := fun b => b.comm = b.staged) m f (fun _ _ _ => rfl)
    (fun _ _ h => h) (fun b h => by obtain ⟨_, _, e⟩ := b.freeze_designOf; rw [e]; exact h) (fun _ h => h)
  refine (State.nothingLost_iff _).2 ⟨?_, fun j hj => .of_comm_eq_staged (bands j hj)⟩
  have committed : (s.prepareWith m f).cg = (s.prepareWith m f).pg := by simp [State.prepareWith]
  constructor <;> rw [committed]
  · exact fun _ => ⟨rfl, rfl, rfl⟩
  · exact fun _ => ⟨rfl, rfl⟩
  · exact fun _ => rfl

/-- R333 to R338: each part of a commit clears a flag only where it puts that flag's registers in force. -/
theorem State.NothingLost.commit {s : State V} (h : s.NothingLost) : s.commit.NothingLost := by
  refine s.commit_keeps (C := C) State.NothingLost ?_ ?_ ?_ ?_ ?_ ?_ ?_ h
  all_goals
    intro s h
    obtain ⟨globals, bands⟩ := s.nothingLost_iff.1 h
    refine (State.nothingLost_iff _).2 ⟨?_, fun j hj => ?_⟩
  · refine ⟨fun _ => ⟨rfl, rfl, rfl⟩, globals.classB, fun clear => ?_⟩
    rw [State.commitS_cg, State.commitS_pg, globals.classN clear]
    rfl
  · rw [State.commitS_bands, mapV_get]
    exact (bands j hj).congr rfl rfl rfl
  · exact ⟨globals.classS, globals.classB, globals.classN⟩
  · rw [State.commitG_bands, mapV_get]
    exact (bands j hj).commitG _
  · refine ⟨globals.classS, fun _ => ⟨rfl, rfl⟩, fun clear => ?_⟩
    rw [State.commitB_cg, State.commitB_pg, globals.classN clear]
    rfl
  · rw [State.commitB_bands, mapV_get]
    exact (bands j hj).commitB
  · exact ⟨globals.classS, globals.classB, globals.classN⟩
  · rw [State.commitBands_bands, mapV_get]
    split
    · exact (bands j hj).commitN _
    · exact bands j hj
  · constructor <;> rw [State.commitGlobal_cg, State.commitGlobal_pg]
    · rw [State.commitGlobal_pendS]
      exact globals.classS
    · rw [State.commitGlobal_pendB]
      exact globals.classB
    · exact fun _ => rfl
  · obtain ⟨rms, e⟩ := s.commitGlobal_band (C := C) hj
    rw [e, State.commitGlobal_pendG, State.commitGlobal_pendB]
    exact (bands j hj).congr rfl rfl rfl
  · exact ⟨globals.classS, globals.classB, globals.classN⟩
  · exact (bands j hj).designOf (recomputeBands_designOf ..)
  · constructor <;> rw [State.updateLatency_cg, State.updateLatency_pg]
    · rw [State.updateLatency_pendS]
      exact globals.classS
    · rw [State.updateLatency_pendB]
      exact globals.classB
    · rw [State.updateLatency_gdirty]
      exact globals.classN
  · simpa using bands j hj

theorem State.NothingLost.processFrames {s : State V} (h : s.NothingLost) (fr : List (Frame V)) :
    (processFrames s fr).NothingLost := by
  obtain ⟨globals, bands⟩ := s.nothingLost_iff.1 h
  obtain ⟨pg, cg, gdirty, pendS, pendG, pendB, -⟩ := (processFrames_signal (C := C) s fr).frame
  refine (State.nothingLost_iff _).2 ⟨⟨?_, ?_, ?_⟩, fun j hj => ?_⟩
  · rw [pg, cg, pendS]
    exact globals.classS
  · rw [pg, cg, pendB]
    exact globals.classB
  · rw [pg, cg, gdirty]
    exact globals.classN
  · obtain ⟨staged, comm⟩ := processFrames_sameRegs (C := C) s fr hj
    rw [pendG, pendB]
    exact (bands j hj).congr staged comm (processFrames_dirty s fr hj)

theorem stepIn_nothingLost {s t : State V} (h : stepIn C s = .next t) (hs : s.NothingLost) : t.NothingLost :=
  stepIn_keeps State.NothingLost (fun _ _ h => ⟨h.classS, h.classG, h.classB, h.bands, h.globals⟩)
    (fun _ r b d h => h.writeBand r b d) (fun _ r d h => h.writeGlobal r d) State.nothingLost_resetIn
    (fun s m f _ _ => s.nothingLost_prepareWith m f) (fun _ h => h.commit) (fun _ fr _ h => h.processFrames fr) h hs

/-! ### LATENCY -/

theorem State.writeBand_latencyOf (s : State V) (r : BandReg) (b : Nat) (d : DataWord) :
    (s.writeBand r b d).latencyOf = s.latencyOf := by
  refine State.latencyOf_congr (by simp) (by simp) (by simp) (groupCount_congr fun j hj => ?_)
  rw [State.writeBand_comm]
  exact ⟨rfl, rfl⟩

theorem State.LatencyCurrent.commit {s : State V} (h : s.LatencyCurrent C) : (s.commit C).LatencyCurrent C := by
  rcases s.commit_cases (C := C) with ⟨-, e⟩ | ⟨-, -, e⟩ | ⟨-, -, e⟩ <;> rw [e]
  · exact h
  · simp [State.LatencyCurrent]
  · simp [State.LatencyCurrent]

theorem stepIn_latencyCurrent (hreset : (State.resetIn C).LatencyCurrent C) {s t : State V} (h : stepIn C s = .next t)
    (hs : s.LatencyCurrent C) : t.LatencyCurrent C := by
  refine stepIn_keeps (fun s => s.LatencyCurrent C) (fun _ _ h => h) (fun s r b d h => ?_) (fun s r d h => ?_)
    (fun _ => hreset) (fun s m f _ _ => ?_) (fun _ h => h.commit) (fun s fr _ h => ?_) h hs
  · rw [State.LatencyCurrent, State.writeBand_latencyOf, State.writeBand_latency]
    exact h
  · rw [State.LatencyCurrent, State.writeGlobal_latency, State.latencyOf_congr (s := s) (by simp) (by simp) (by simp) (by simp)]
    exact h
  · simp [State.LatencyCurrent, State.prepareWith]
  · obtain ⟨-, -, -, -, -, -, -, -, -, -, latency, -⟩ := (processFrames_signal (C := C) s fr).frame
    rw [State.LatencyCurrent, latency, processFrames_latencyOf]
    exact h

/-! ### Normalised sections -/

theorem Band.Normalised.of_coefs {b c : Band V} (h : b.Normalised) (e : c.coefs = b.coefs) : c.Normalised := by
  constructor <;> rw [e]
  · exact h.base
  · exact h.cur
  · exact h.side

theorem Band.Normalised.recompute {b : Band V} (h : b.Normalised) (fs : Nat) : (b.recompute fs).Normalised := by
  have designed : ∀ c ∈ (b.recompute fs).coefs.baseSecs, c.a0 = 1 := fun _ => design_a0
  refine ⟨designed, ?_, ?_⟩
  · unfold Band.recompute
    dsimp only
    split
    · exact h.cur
    · exact designed
  · rintro _ ⟨⟩
    rfl

theorem Band.Normalised.freeze {b : Band V} (h : b.Normalised) : b.freeze.Normalised := by
  unfold Band.freeze
  split
  · exact ⟨h.base, h.cur, h.side⟩
  · exact h

theorem Band.Normalised.sectionsAt {b : Band V} (h : b.Normalised) (fs : Nat) (t : V) : (b.sectionsAt fs t).Normalised := by
  unfold Band.sectionsAt
  split
  · exact ⟨h.base, fun _ => design_a0, h.side⟩
  · exact ⟨h.base, h.base, h.side⟩

theorem Band.normalised_commitKeeps : Band.CommitKeeps C (Band.Normalised (V := V)) where
  zeroFilter _ h := h.of_coefs rfl
  commitG w b h := by
    obtain ⟨b1, rfl, e | e⟩ := b.commitG_cases (C := C) w <;> rw [e] <;> exact h.of_coefs rfl
  commitB b h := by
    obtain ⟨b1, rfl, e | e⟩ := b.commitB_cases <;> rw [e] <;> exact h.of_coefs rfl
  commitN w b _ h := h.of_coefs (b.commitN_coefs w)
  resize _ _ h := h.of_coefs rfl
  recompute fs _ h := h.recompute fs
  freeze _ h := h.freeze

theorem Band.normalised_pathKeeps (w : Nat) : Band.PathKeeps C w (Band.Normalised (V := V)) where
  tick _ _ _ h := h.of_coefs rfl
  update cg fs n push ok sums b _ h := by
    obtain ⟨_, _, _, _, _, -, e⟩ := b.update_cases (C := C) cg fs w n push ok sums
    rw [e]
    exact h.of_coefs rfl
  sections fs t _ h := h.sectionsAt fs t
  filter _ _ _ _ h := h.of_coefs rfl

/-- R360: the solo section is a band-pass section of the designer. -/
theorem soloSection_a0 (cg : GlobalRegs V) (bands : Vector (Band V) Config.numBands) (fs : Nat) :
    ∀ c ∈ soloSection cg bands fs C, c.a0 = 1 := by
  intro c hc
  unfold soloSection at hc
  split at hc
  · dsimp only at hc
    split at hc
    · obtain rfl := Option.some.inj hc
      rfl
    · cases hc
  · cases hc

theorem State.commit_soloSec_a0 {s : State V} (h : ∀ c ∈ s.soloSec, c.a0 = 1) : ∀ c ∈ (s.commit C).soloSec, c.a0 = 1 := by
  rcases s.commit_cases (C := C) with ⟨-, e⟩ | ⟨-, -, e⟩ | ⟨-, -, e⟩ <;> rw [e]
  · exact h
  all_goals
    rw [State.updateLatency_soloSec]
    exact soloSection_a0 _ _ _

theorem stepIn_soloSec_a0 {s t : State V} (h : stepIn C s = .next t) (hs : ∀ c ∈ s.soloSec, c.a0 = 1) :
    ∀ c ∈ t.soloSec, c.a0 = 1 := by
  refine stepIn_keeps (C := C) (fun s : State V => ∀ c ∈ s.soloSec, c.a0 = 1) (fun _ _ h => h) (fun s r b d h => ?_) (fun s r d h => ?_)
    (fun _ => nofun) (fun s m f _ _ => ?_) (fun _ h => State.commit_soloSec_a0 h) (fun s fr _ h => ?_) h hs
  · rw [State.writeBand_soloSec]
    exact h
  · rw [State.writeGlobal_soloSec]
    exact h
  · rw [State.prepareWith, State.updateLatency_soloSec]
    exact soloSection_a0 _ _ _
  · obtain ⟨-, -, -, -, -, -, -, -, -, -, -, -, -, -, -, soloSec⟩ := (processFrames_signal (C := C) s fr).frame
    rw [soloSec]
    exact h

theorem stepIn_normalised {s t : State V} (h : stepIn C s = .next t) (hs : s.Normalised) : t.Normalised where
  bands := stepIn_keepsBands ⟨nofun, nofun, nofun⟩ (fun _ _ _ _ _ h => h.of_coefs rfl) Band.normalised_commitKeeps
    (fun _ _ h => h.of_coefs rfl) (fun _ h => ⟨h.base, h.base, h.side⟩) Band.normalised_pathKeeps h hs.bands
  solo := stepIn_soloSec_a0 h hs.solo

end

/-- Settles O60: none of the three arguments asks a law of the values. -/
theorem everyConfiguration : Obligations.EveryConfiguration := by
  intro V _ _ _ _ _ _ _ _ _ _ _ _ _ _ _ C s t h
  exact ⟨stepIn_nothingLost h, stepIn_normalised h, fun hreset hs => stepIn_latencyCurrent hreset h hs⟩

/-- Settles O40: in the standard configuration. -/
theorem nothingStaysLost : Obligations.NothingStaysLost :=
  fun s _ hs h => stepIn_nothingLost ((step_eq_stepIn s).symm.trans h) hs

/-- Settles O41: in the standard configuration. -/
theorem sectionsStayNormalised : Obligations.SectionsStayNormalised :=
  fun s _ hs h => stepIn_normalised ((step_eq_stepIn s).symm.trans h) hs

/-- With no lookahead, no sub-block length and no correcting structure there is no latency. -/
theorem State.reset_latencyCurrent : State.reset.LatencyCurrent := by
  unfold State.LatencyCurrent
  decide +kernel

/-- Settles O44: in the standard configuration, whose reset state has no latency. -/
theorem latencyStaysCurrent : Obligations.LatencyStaysCurrent :=
  fun s _ hs h => stepIn_latencyCurrent State.reset_latencyCurrent ((step_eq_stepIn s).symm.trans h) hs

end Sys2Proof.Machine
end

section
/-! PROOFS. The signal path's lists and ports: every stage answers as many samples as it is given, what a sub-block writes, and
that the audio streams at the ports are not read. -/

namespace Sys2Proof.Machine

section

set_option linter.unusedSectionVars false

variable {V : Type} [Zero V] [One V] [NatCast V] [Add V] [Sub V] [Neg V] [Mul V] [Div V]
  [LT V] [LE V] [BEq V] [Min V] [Max V] [DecidableLT V] [DecidableLE V] {C : Config V}

/-! ### Lengths in a lane -/

theorem bandRun_length (es : Structure) (fs : Nat) (slot : Slot) :
    ∀ (b : Band V) (ts xs : List V), (bandRun es fs slot b ts xs).1.length = xs.length
  | _, _, [] => rfl
  | _, _, _ :: xs => congrArg (· + 1) (bandRun_length es fs slot _ _ xs)

theorem laneRun_length (es : Structure) (fs : Nat) (m : Stereo) (slot : Slot) (ts : List (List V))
    (bands : Vector (Band V) Config.numBands) (xs : List V) :
    (laneRun es fs m slot ts bands xs).1.length = xs.length := by
  have series : (laneSeries es fs m slot ts bands xs).1.length = xs.length := by
    refine accV_inv (fun v => v.length = xs.length) _ (fun i v b h => ?_) xs bands rfl
    split
    · exact (bandRun_length ..).trans h
    · exact h
  have parallel : (laneParallel es fs m slot ts bands xs).1.length = xs.length := by
    refine accV_inv (fun v => v.length = xs.length) _ (fun i v b h => ?_) xs bands rfl
    split
    · simp [h, bandRun_length]
    · exact h
  unfold laneRun
  split
  · rfl
  · exact parallel
  · exact series

theorem corrRun_length (filter : Bool) (M : Nat) :
    ∀ (c : CorrSlot V) (xs : List V), (corrRun filter M c xs).1.length = xs.length
  | _, [] => rfl
  | _, _ :: xs => congrArg (· + 1) (corrRun_length filter M _ xs)

theorem cascade_length (es : Structure) :
    ∀ (cs : List (Section V)) (sts : List (SecState V)) (x : V), (cascade es cs sts x).2.length = sts.length
  | [], _, _ => rfl
  | _ :: _, [], _ => rfl
  | _ :: cs, _ :: sts, _ => congrArg (· + 1) (cascade_length es cs sts _)

/-! ### Lengths in a sub-block -/

/-- Both channels have `n` samples. -/
def Pair.HasLength (n : Nat) (x : Pair V) : Prop := x.1.length = n ∧ x.2.length = n

theorem groupIn_hasLength {n : Nat} {x : Pair V} (h : Pair.HasLength n x) (g : Group) : Pair.HasLength n (groupIn g x) := by
  obtain ⟨left, right⟩ := h
  unfold groupIn
  split
  · simp [Pair.HasLength, msEncode, left, right]
  · exact ⟨left, right⟩

theorem groupOut_hasLength {n : Nat} {x : Pair V} (h : Pair.HasLength n x) (g : Group) : Pair.HasLength n (groupOut g x) := by
  obtain ⟨left, right⟩ := h
  unfold groupOut
  split
  · simp [Pair.HasLength, msDecode, left, right]
  · exact ⟨left, right⟩

theorem slotStage_length (mode : Mode) (ts : List (List V)) (g : Group) (k : Slot) (s : State V) (xs : List V) :
    (slotStage mode ts g k s xs).1.length = xs.length := by
  unfold slotStage
  extract_lets es lane cor out
  have hlane : lane.1.length = xs.length := by
    unfold lane
    split
    · exact laneRun_length ..
    · rfl
  have hcor : cor.1.length = xs.length := by
    unfold cor
    split
    · exact (corrRun_length ..).trans hlane
    · exact hlane
  change out.length = xs.length
  unfold out
  split
  · exact (List.length_map _).trans hcor
  · exact hcor

theorem groupStage_hasLength {n : Nat} {x : Pair V} (h : Pair.HasLength n x) (mode : Mode) (ts : List (List V)) (g : Group)
    (s : State V) : Pair.HasLength n (groupStage mode ts g s x).1 := by
  unfold groupStage
  split
  · obtain ⟨left, right⟩ := groupIn_hasLength h g
    exact groupOut_hasLength ⟨(slotStage_length ..).trans left, (slotStage_length ..).trans right⟩ g
  · exact h

theorem soloRun_hasLength (c : Section V) (m : Stereo) : ∀ (n : Nat) (st : PerSlot (SecState V)) (ls rs : List V),
    ls.length = n → rs.length = n → Pair.HasLength n (soloRun c m st ls rs).1
  | 0, _, [], [], _, _ => ⟨rfl, rfl⟩
  | n + 1, _, _ :: ls, _ :: rs, hl, hr => by
    obtain ⟨left, right⟩ := soloRun_hasLength c m n _ ls rs (Nat.succ.inj hl) (Nat.succ.inj hr)
    exact ⟨congrArg (· + 1) left, congrArg (· + 1) right⟩

theorem soloStage_hasLength {n : Nat} {x : Pair V} (h : Pair.HasLength n x) (mode : Mode) (s : State V) :
    Pair.HasLength n (soloStage mode s x).1 := by
  unfold soloStage
  split
  · exact soloRun_hasLength _ _ n _ _ _ h.1 h.2
  · exact h

theorem postStage_hasLength {n : Nat} {x : Pair V} (h : Pair.HasLength n x) (mode : Mode) (s : State V) :
    Pair.HasLength n (postStage mode s x).1 := by
  unfold postStage
  split
  · exact ⟨(List.length_map _).trans h.1, (List.length_map _).trans h.2⟩
  · exact h

/-- A sub-block gives one output pair for each of its frames. -/
theorem subblock_length (s : State V) (fr : List (Frame V)) : (subblock s fr).1.length = fr.length := by
  have main : Pair.HasLength fr.length (mainPairs fr) := ⟨List.length_map _, List.length_map _⟩
  obtain ⟨left, right⟩ := postStage_hasLength (groupStage_hasLength (C := C) (groupStage_hasLength (groupStage_hasLength
    (soloStage_hasLength main (detectStage s fr).2.mode (detectStage s fr).2) _ (detectStage s fr).1 .st _) _
    (detectStage s fr).1 .lr _) _ (detectStage s fr).1 .ms _) (detectStage s fr).2.mode _
  refine (List.length_zip ..).trans ?_
  rw [Nat.min_eq_left]
  · exact left
  · exact (left.trans right.symm).le

/-! ### Lengths in the splitters -/

/-- The chunks of the zero-latency splitter, put together again (45_controller.md R346). -/
theorem chunks_flatten {n : Nat} (hn : 0 < n) : ∀ (fuel : Nat) (fr : List (Frame V)), fr.length ≤ fuel →
    (chunks n fuel fr).flatten = fr
  | 0, fr, h => (List.eq_nil_of_length_eq_zero (Nat.le_zero.1 h)).symm
  | _ + 1, [], _ => rfl
  | fuel + 1, f :: fr, h => by
    have shorter : ((f :: fr).drop n).length ≤ fuel := by
      rw [List.length_drop]
      rw [List.length_cons] at h ⊢
      omega
    rw [chunks, List.flatten_cons, chunks_flatten hn fuel _ shorter, List.take_append_drop]
    exact nofun

theorem chunkRun_length : ∀ (s : State V) (cs : List (List (Frame V))),
    (chunkRun s cs).1.length = cs.flatten.length
  | _, [] => rfl
  | s, c :: cs => by
    rw [chunkRun, List.length_append, subblock_length, chunkRun_length _ cs, List.flatten_cons, List.length_append]

theorem fifoRun_length : ∀ (s : State V) (fr : List (Frame V)), (fifoRun s fr).1.length = fr.length
  | _, [] => rfl
  | _, _ :: fr => congrArg (· + 1) (fifoRun_length _ fr)

theorem splitRun_length {s : State V} (hs : 0 < s.sublen) (fr : List (Frame V)) :
    (splitRun s fr).1.length = fr.length := by
  unfold splitRun
  split
  · rw [chunkRun_length, chunks_flatten hs _ _ le_rfl]
  · exact fifoRun_length s fr

theorem frontRun_length_eq : ∀ (s : State V) (fr : List (Frame V)), (frontRun s fr).1.length = fr.length
  | _, [] => rfl
  | _, _ :: fr => congrArg (· + 1) (frontRun_length_eq _ fr)

theorem outWords_length (out : List (V × V)) : (outWords out C).length = 2 * out.length := by
  simp [outWords, Nat.mul_comm]

/-! ### What the stages after the detectors write -/

/-- `t` is `s` with at most the bands, the correction stages, the accumulators and the solo filter's state changed. -/
def State.MainOf (s t : State V) : Prop :=
  ∃ bands corr meas solo, t = { s with bands := bands, corr := corr, meas := meas, soloState := solo }

theorem State.MainOf.refl (s : State V) : s.MainOf s := ⟨s.bands, s.corr, s.meas, s.soloState, rfl⟩

theorem State.MainOf.trans {s t u : State V} (h : s.MainOf t) (k : t.MainOf u) : s.MainOf u := by
  obtain ⟨_, _, _, _, rfl⟩ := h
  obtain ⟨bands, corr, meas, solo, rfl⟩ := k
  exact ⟨bands, corr, meas, solo, rfl⟩

theorem slotStage_mainOf (mode : Mode) (ts : List (List V)) (g : Group) (k : Slot) (s : State V) (xs : List V) :
    s.MainOf (slotStage mode ts g k s xs).2 := ⟨_, _, s.meas, s.soloState, rfl⟩

theorem groupStage_mainOf (mode : Mode) (ts : List (List V)) (g : Group) (s : State V) (x : Pair V) :
    s.MainOf (groupStage mode ts g s x).2 := by
  unfold groupStage
  split
  · exact (slotStage_mainOf ..).trans (slotStage_mainOf ..)
  · exact .refl s

theorem soloStage_mainOf (mode : Mode) (s : State V) (x : Pair V) : s.MainOf (soloStage mode s x).2 := by
  unfold soloStage
  split
  · exact ⟨s.bands, s.corr, s.meas, _, rfl⟩
  · exact .refl s

theorem postStage_mainOf (mode : Mode) (s : State V) (x : Pair V) : s.MainOf (postStage mode s x).2 := by
  unfold postStage
  split
  · dsimp only
    split
    · exact ⟨s.bands, s.corr, _, s.soloState, rfl⟩
    · exact .refl s
  · exact .refl s

theorem mainStage_mainOf (ts : List (List V)) (s : State V) (x : Pair V) : s.MainOf (mainStage ts s x).2 :=
  (soloStage_mainOf ..).trans <| (groupStage_mainOf ..).trans <| (groupStage_mainOf ..).trans <|
    (groupStage_mainOf ..).trans (postStage_mainOf ..)

/-- R348: all that a sub-block writes besides what the detectors do. -/
theorem subblock_mainOf (s : State V) (fr : List (Frame V)) : (detectStage s fr).2.MainOf (subblock s fr).2 :=
  mainStage_mainOf ..

/-! ### What the splitter neither reads nor writes -/

/-- What of the state is no business of the splitter: the lookahead line, the accumulators before the chain, and the audio
streams at the ports. -/
structure Idle (V : Type) where
  la : LaLine V
  preSum : V
  preN : Nat
  audioIn : List DataWord
  audioOut : List DataWord

def State.idle (s : State V) : Idle V := ⟨s.la, s.meas.preSum, s.meas.preN, s.io.audioIn, s.io.audioOut⟩

def State.withIdle (s : State V) (e : Idle V) : State V :=
  { s with
    la := e.la, meas := { s.meas with preSum := e.preSum, preN := e.preN }
    io := { s.io with audioIn := e.audioIn, audioOut := e.audioOut } }

theorem State.withIdle_idle (s : State V) : s.withIdle s.idle = s := rfl

section

variable (e : Idle V)

theorem groupStage_withIdle (mode : Mode) (ts : List (List V)) (g : Group) (s : State V) (x : Pair V) :
    groupStage mode ts g (s.withIdle e) x = ((groupStage mode ts g s x).1, (groupStage mode ts g s x).2.withIdle e) := by
  have same : (s.withIdle e).bands = s.bands := rfl
  unfold groupStage
  rw [same]
  split <;> rfl

theorem soloStage_withIdle (mode : Mode) (s : State V) (x : Pair V) :
    soloStage mode (s.withIdle e) x = ((soloStage mode s x).1, (soloStage mode s x).2.withIdle e) := by
  have same : (s.withIdle e).soloSec = s.soloSec := rfl
  unfold soloStage
  rw [same]
  split <;> rfl

theorem postStage_withIdle (mode : Mode) (s : State V) (x : Pair V) :
    postStage mode (s.withIdle e) x = ((postStage mode s x).1, (postStage mode s x).2.withIdle e) := by
  have same : (s.withIdle e).cg = s.cg := rfl
  unfold postStage
  rw [same]
  split
  · dsimp only
    split <;> rfl
  · rfl

theorem mainStage_withIdle (ts : List (List V)) (s : State V) (x : Pair V) :
    mainStage ts (s.withIdle e) x = ((mainStage ts s x).1, (mainStage ts s x).2.withIdle e) := by
  have same : (s.withIdle e).mode = s.mode := rfl
  unfold mainStage
  simp only [same, soloStage_withIdle, groupStage_withIdle, postStage_withIdle]

theorem subblock_withIdle (s : State V) (fr : List (Frame V)) :
    subblock (s.withIdle e) fr = ((subblock s fr).1, (subblock s fr).2.withIdle e) := by
  have detected : detectStage (s.withIdle e) fr = ((detectStage s fr).1, (detectStage s fr).2.withIdle e) := rfl
  unfold subblock
  rw [detected]
  simp only [mainStage_withIdle]

theorem fifoPush_withIdle (s : State V) (f : Frame V) :
    fifoPush (s.withIdle e) f = ((fifoPush s f).1, (fifoPush s f).2.withIdle e) := by
  have full := subblock_withIdle (C := C) e { s with fifo := { s.fifo with inp := s.fifo.inp.set s.fifo.pos f } }
    (s.fifo.inp.set s.fifo.pos f)
  unfold State.withIdle at full ⊢
  unfold fifoPush
  dsimp only at full ⊢
  rw [full]
  split <;> rfl

theorem fifoRun_withIdle : ∀ (s : State V) (fr : List (Frame V)),
    fifoRun (s.withIdle e) fr = ((fifoRun s fr).1, (fifoRun s fr).2.withIdle e)
  | _, [] => rfl
  | s, f :: fr => by simp only [fifoRun, fifoPush_withIdle, fifoRun_withIdle _ fr]

theorem chunkRun_withIdle : ∀ (s : State V) (cs : List (List (Frame V))),
    chunkRun (s.withIdle e) cs = ((chunkRun s cs).1, (chunkRun s cs).2.withIdle e)
  | _, [] => rfl
  | s, c :: cs => by simp only [chunkRun, subblock_withIdle, chunkRun_withIdle _ cs]

theorem splitRun_withIdle (s : State V) (fr : List (Frame V)) :
    splitRun (s.withIdle e) fr = ((splitRun s fr).1, (splitRun s fr).2.withIdle e) := by
  have cg : (s.withIdle e).cg = s.cg := rfl
  have sublen : (s.withIdle e).sublen = s.sublen := rfl
  unfold splitRun
  rw [cg, sublen]
  split
  · exact chunkRun_withIdle ..
  · exact fifoRun_withIdle ..

end

theorem splitRun_idle (s : State V) (fr : List (Frame V)) : (splitRun s fr).2.idle = s.idle := by
  have same := congrArg (fun r => r.2.idle) (splitRun_withIdle (C := C) s.idle s fr)
  rw [State.withIdle_idle] at same
  exact same

/-- The front end writes nothing else. -/
theorem frontRun_snd : ∀ (s : State V) (fr : List (Frame V)), (frontRun s fr).2 = s.withIdle (frontRun s fr).2.idle
  | _, [] => rfl
  | s, f :: fr => by
    have head : (frontFrame s f).2 = s.withIdle (frontFrame s f).2.idle := by
      unfold frontFrame
      dsimp only
      split <;> rfl
    rw [frontRun]
    dsimp only
    rw [frontRun_snd _ fr, head]
    rfl

/-- What the front end reads is in there, and MEASURE. -/
theorem frontRun_congr {s t : State V} (idle : t.idle = s.idle) (measure : t.cg.measure = s.cg.measure) :
    ∀ fr : List (Frame V), (frontRun t fr).1 = (frontRun s fr).1 ∧ (frontRun t fr).2.idle = (frontRun s fr).2.idle
  | [] => ⟨rfl, idle⟩
  | f :: fr => by
    obtain ⟨la, preSum, preN, audioIn, audioOut⟩ := Idle.mk.inj idle
    have frame : (frontFrame t f).1 = (frontFrame s f).1 := by
      unfold frontFrame
      rw [la]
    have rest : (frontFrame t f).2.idle = (frontFrame s f).2.idle := by
      unfold frontFrame State.idle
      dsimp only
      rw [la, measure, audioIn, audioOut]
      split
      · unfold Meas.pre
        dsimp only
        rw [preSum, preN]
      · rw [preSum, preN]
    obtain ⟨frames, after⟩ := frontRun_congr (s := (frontFrame s f).2) (t := (frontFrame t f).2) rest measure fr
    rw [frontRun, frontRun]
    dsimp only
    rw [frame, frames]
    exact ⟨rfl, after⟩

/-! ### The audio streams at the ports -/

/-- The state with other words on its two audio streams. -/
def State.withAudio (s : State V) (audioIn audioOut : List DataWord) : State V :=
  { s with io := { s.io with audioIn := audioIn, audioOut := audioOut } }

/-- What the frames of a PROCESS put out, and the state but for the words put out (45_controller.md R331). -/
def processRun (C : Config V) (s : State V) (fr : List (Frame V)) : List (V × V) × State V :=
  splitRun (frontRun s fr).2 (frontRun s fr).1

theorem processFrames_eq (s : State V) (fr : List (Frame V)) :
    processFrames s fr = (processRun C s fr).2.emit (processRun C s fr).1 := rfl

variable (i o : List DataWord)

theorem frontRun_withAudio : ∀ (s : State V) (fr : List (Frame V)),
    frontRun (s.withAudio i o) fr = ((frontRun s fr).1, (frontRun s fr).2.withAudio i o)
  | _, [] => rfl
  | s, f :: fr => by
    have head : frontFrame (s.withAudio i o) f = ((frontFrame s f).1, (frontFrame s f).2.withAudio i o) := rfl
    simp only [frontRun, head, frontRun_withAudio _ fr]

theorem splitRun_withAudio (s : State V) (fr : List (Frame V)) :
    splitRun (s.withAudio i o) fr = ((splitRun s fr).1, (splitRun s fr).2.withAudio i o) := by
  have idle := splitRun_idle (C := C) s fr
  have other : (splitRun s fr).2.withAudio i o =
      (splitRun s fr).2.withIdle { (splitRun s fr).2.idle with audioIn := i, audioOut := o } := rfl
  rw [other, idle]
  exact splitRun_withIdle { s.idle with audioIn := i, audioOut := o } s fr

/-- The frames of a PROCESS read nothing of the audio streams; their output comes after what was there. -/
theorem processFrames_withAudio (s : State V) (fr : List (Frame V)) :
    processFrames (s.withAudio i o) fr C =
      (processRun C s fr).2.withAudio i (o ++ outWords (processRun C s fr).1) := by
  rw [processFrames_eq, processRun, frontRun_withAudio, splitRun_withAudio]
  rfl

theorem processFrames_audio (s : State V) (fr : List (Frame V)) :
    (processFrames s fr).io.audioIn = s.io.audioIn ∧
    (processFrames s fr).io.audioOut = s.io.audioOut ++ outWords (processRun C s fr).1 := by
  have self : s.withAudio s.io.audioIn s.io.audioOut = s := rfl
  have run := processFrames_withAudio (C := C) s.io.audioIn s.io.audioOut s fr
  rw [self] at run
  rw [run]
  exact ⟨rfl, rfl⟩

theorem processRun_length {s : State V} (hs : 0 < s.sublen) (fr : List (Frame V)) :
    (processRun C s fr).1.length = fr.length := by
  obtain ⟨-, -, -, -, -, -, -, -, -, sublen, -⟩ := (frontRun_signal fr s).frame
  rw [processRun, splitRun_length (sublen ▸ hs), frontRun_length_eq]

theorem updateLatency_withAudio (s : State V) : (s.withAudio i o).updateLatency = s.updateLatency.withAudio i o := by
  have latencyOf : (s.withAudio i o).latencyOf = s.latencyOf := rfl
  have latency : (s.withAudio i o).latency = s.latency := rfl
  unfold State.updateLatency
  rw [latencyOf, latency]
  split <;> rfl

theorem commitGlobal_withAudio (s : State V) : (s.withAudio i o).commitGlobal = s.commitGlobal.withAudio i o := by
  have cg : (s.withAudio i o).cg = s.cg := rfl
  have pg : (s.withAudio i o).pg = s.pg := rfl
  unfold State.commitGlobal
  rw [cg, pg]
  dsimp only
  split <;> rfl

/-- A commit reads nothing of the audio streams and leaves them as they are. -/
theorem commit_withAudio (s : State V) : (s.withAudio i o).commit = s.commit.withAudio i o := by
  have flags : (s.withAudio i o).anyFlag = s.anyFlag := rfl
  have gdirty : (s.withAudio i o).gdirty = s.gdirty := rfl
  have structural : (s.withAudio i o).commitStructural = s.commitStructural.withAudio i o := by
    have pendS : (s.withAudio i o).pendS = s.pendS := rfl
    have pendG : (s.withAudio i o).pendG = s.pendG := rfl
    have pendB : (s.withAudio i o).pendB = s.pendB := rfl
    unfold State.commitStructural
    rw [pendS, pendG, pendB]
    split
    · rfl
    split
    · rfl
    split <;> rfl
  have bands (t : State V) : (t.withAudio i o).commitBands = t.commitBands.withAudio i o := rfl
  have recompute (t : State V) : (t.withAudio i o).recompute = t.recompute.withAudio i o := rfl
  unfold State.commit
  rw [flags, gdirty, structural, bands]
  dsimp only
  split
  · split
    · rw [commitGlobal_withAudio, recompute, updateLatency_withAudio]
    · rw [recompute, updateLatency_withAudio]
  · rfl

end

end Sys2Proof.Machine
end

section
/-! PROOFS. What every step of the machine keeps of its bands: legal registers (10_state.md R22), sound histograms (R34) and
factors (R32), and coefficients that are the design of the committed registers (20_memory.md R77). -/

namespace Sys2Proof.Machine

section

set_option linter.unusedSectionVars false

variable {V : Type} [Zero V] [One V] [NatCast V] [Add V] [Sub V] [Neg V] [Mul V] [Div V]
  [LT V] [LE V] [BEq V] [Min V] [Max V] [DecidableLT V] [DecidableLE V] {C : Config V}

/-! ### Properties that read few parts of a band -/

theorem Band.commitG_sameDet (w : Nat) (b : Band V) :
    ((b.commitG w).det = b.det ∨ (b.commitG w).det = Detector.zero w) ∧ (b.commitG w).coefs = b.coefs ∧
    (b.commitG w).hist = b.hist := by
  obtain ⟨b1, rfl, e | e⟩ := b.commitG_cases (C := C) w <;> rw [e]
  · exact ⟨.inl rfl, rfl, rfl⟩
  · exact ⟨.inr rfl, rfl, rfl⟩

theorem Band.commitB_sameDet (b : Band V) : b.commitB.det = b.det ∧ b.commitB.coefs = b.coefs ∧ b.commitB.hist = b.hist := by
  obtain ⟨b1, rfl, e | e⟩ := b.commitB_cases <;> rw [e] <;> exact ⟨rfl, rfl, rfl⟩

/-- Stop learning leaves detector, histogram and every register but THRESH and KNEE (R277). -/
theorem Band.stopLearning_frame (b : Band V) :
    b.stopLearning.det = b.det ∧ b.stopLearning.hist = b.hist ∧ b.stopLearning.fstate = b.fstate ∧
    b.stopLearning.disp = b.disp ∧ b.stopLearning.comm.dynOn = b.comm.dynOn := by
  obtain e | ⟨thresh, knee, e⟩ := b.stopLearning_cases (C := C) <;> rw [e] <;> exact ⟨rfl, rfl, rfl, rfl, rfl⟩

/-- A property that reads the registers alone is kept by the signal path. -/
theorem Band.pathKeeps_of_sameRegs {P : Band V → Prop} (hP : ∀ b c : Band V, b.SameRegs c → P b → P c) (w : Nat) :
    Band.PathKeeps C w P where
  tick b side hd h := hP b _ ((b.sameRegs_pathKeeps (C := C) w).tick b side hd ⟨rfl, rfl⟩) h
  update cg fs n push ok sums b hd h :=
    hP b _ ((b.sameRegs_pathKeeps (C := C) w).update cg fs n push ok sums b hd ⟨rfl, rfl⟩) h
  sections fs t b h := hP b _ ((b.sameRegs_pathKeeps (C := C) w).sections fs t b ⟨rfl, rfl⟩) h
  filter es slot x b h := hP b _ ((b.sameRegs_pathKeeps (C := C) w).filter es slot x b ⟨rfl, rfl⟩) h

/-! ### What RECOMPUTE establishes -/

/-- What the design of a band establishes and freezing keeps, RECOMPUTE establishes in every band (R339). -/
theorem recomputeBands_establishes {P : Band V → Prop} {fs : Nat} (hr : ∀ b : Band V, P (b.recompute fs)) (hf : ∀ b, P b → P b.freeze)
    (es : Structure) (bands : Vector (Band V) Config.numBands) {j : Nat} (hj : j < Config.numBands) :
    P (recomputeBands es fs bands)[j] := by
  unfold recomputeBands
  dsimp only
  split
  · simpa using hf _ (hr bands[j])
  · simpa using hr bands[j]

/-- The bands after a commit come from RECOMPUTE, or nothing was committed (R333). -/
theorem State.commit_eq_or_recomputed (s : State V) :
    s.commit = s ∨ ∃ es bands, s.commit.bands = recomputeBands es s.fs bands := by
  obtain ⟨-, -, fs, -⟩ := s.commit_frame (C := C)
  rcases s.commit_cases (C := C) with ⟨-, e⟩ | ⟨-, -, e⟩ | ⟨-, -, e⟩
  · exact .inl e
  all_goals
    rw [← fs, e, State.updateLatency_fs, State.updateLatency_bands, State.recompute_bands, State.recompute_fs]
    exact .inr ⟨_, _, rfl⟩

/-- So what RECOMPUTE establishes for the sample rate, a commit keeps. -/
theorem State.commit_keepsDesigned {P : Band V → Prop} {s : State V} (hr : ∀ b : Band V, P (b.recompute s.fs)) (hf : ∀ b, P b → P b.freeze)
    (hs : ∀ j (hj : j < Config.numBands), P s.bands[j]) : ∀ j (hj : j < Config.numBands), P s.commit.bands[j] := by
  intro j hj
  obtain e | ⟨es, bands, e⟩ := s.commit_eq_or_recomputed (C := C)
  · rw [e]
    exact hs j hj
  · simp only [e]
    exact recomputeBands_establishes hr hf es bands hj

/-! ### Coefficients -/

/-- The coefficients of a band are the design of its committed registers (20_memory.md R77). -/
def Band.CoherentAt (C : Config V) (fs : Nat) (b : Band V) : Prop :=
  b.coefs.baseSecs = design b.comm.ftype b.comm.freq b.comm.gain b.comm.q b.comm.order fs ∧
  b.coefs.sideSec = (design .bandPass b.comm.sideFreq 0 b.comm.sideQ 2 fs).head?

/-- Only the committed registers and the coefficients but those in use count. -/
theorem Band.CoherentAt.congr {fs : Nat} {b c : Band V} (h : b.CoherentAt C fs) (comm : c.comm = b.comm)
    (base : c.coefs.baseSecs = b.coefs.baseSecs) (side : c.coefs.sideSec = b.coefs.sideSec) : c.CoherentAt C fs := by
  rw [Band.CoherentAt, comm, base, side]
  exact h

/-- R214: the side section is the first and only section of its design. -/
theorem Band.recompute_coherentAt (fs : Nat) (b : Band V) : (b.recompute fs).CoherentAt C fs := ⟨rfl, rfl⟩

theorem Band.CoherentAt.freeze {fs : Nat} {b : Band V} (h : b.CoherentAt C fs) : b.freeze.CoherentAt C fs := by
  unfold Band.freeze
  split
  · exact h.congr rfl rfl rfl
  · exact h

theorem Band.coherentAt_pathKeeps (fs w : Nat) : Band.PathKeeps C w (Band.CoherentAt C fs) where
  tick _ _ _ h := h.congr rfl rfl rfl
  update cg fs n push ok sums b _ h := by
    obtain ⟨_, _, _, _, _, -, e⟩ := b.update_cases (C := C) cg fs w n push ok sums
    rw [e]
    exact h.congr rfl rfl rfl
  sections fs t b h := by
    unfold Band.sectionsAt
    split <;> exact h.congr rfl rfl rfl
  filter _ _ _ _ h := h.congr rfl rfl rfl

theorem stepIn_coherent {s t : State V} (h : stepIn C s = .next t)
    (hs : s.prepared = true → ∀ j (hj : j < Config.numBands), s.bands[j].CoherentAt C s.fs) :
    t.prepared = true → ∀ j (hj : j < Config.numBands), t.bands[j].CoherentAt C t.fs := by
  refine stepIn_keeps (C := C) (fun s => s.prepared = true → ∀ j (hj : j < Config.numBands), s.bands[j].CoherentAt C s.fs)
    (fun _ _ h => h) (fun s r b d h hp j hj => ?_) (fun s r d h hp j hj => ?_) (fun _ => nofun) (fun s m f _ _ _ j hj => ?_)
    (fun s h hp => ?_) (fun s fr _ h hp j hj => ?_) h hs
  · rw [State.writeBand_prepared] at hp
    rw [State.writeBand_fs]
    obtain ⟨_, _, e⟩ := s.writeBand_band r b d hj
    rw [e]
    exact (h hp j hj).congr rfl rfl rfl
  · rw [State.writeGlobal_prepared] at hp
    simp only [State.writeGlobal_fs, State.writeGlobal_bands]
    exact h hp j hj
  · simp only [State.prepareWith, State.updateLatency_bands, State.updateLatency_fs, mapV_get]
    have designed : (recomputeBands (effStruct s.pg) f (s.prepareClear m f C).bands C)[j].CoherentAt C f :=
      recomputeBands_establishes (Band.recompute_coherentAt f) (fun _ h => h.freeze) _ _ hj
    exact designed.congr rfl rfl rfl
  · obtain ⟨-, prepared, fs, -⟩ := s.commit_frame (C := C)
    rw [prepared] at hp
    rw [fs]
    exact State.commit_keepsDesigned (Band.recompute_coherentAt s.fs) (fun _ h => h.freeze) (h hp)
  · obtain ⟨-, -, -, -, -, -, prepared, fs, -⟩ := (processFrames_signal (C := C) s fr).frame
    rw [fs]
    exact processFrames_keepsBand (Band.coherentAt_pathKeeps s.fs s.w) fr hj (h (prepared ▸ hp) j hj)

/-! ### The sections a static band runs -/

/-- A static band runs its base design (10_state.md R30). -/
def Band.RunsBase (b : Band V) : Prop := b.comm.dynOn = false → b.coefs.curSecs = b.coefs.baseSecs

theorem Band.RunsBase.freeze {b : Band V} (h : b.RunsBase) : b.freeze.RunsBase := by
  unfold Band.freeze
  split <;> exact h

theorem Band.recompute_runsBase (fs : Nat) (b : Band V) : (b.recompute fs).RunsBase := by
  intro static
  exact if_neg (Bool.eq_false_iff.1 static)

theorem Band.runsBase_pathKeeps (w : Nat) : Band.PathKeeps C w (Band.RunsBase (V := V)) where
  tick _ _ _ h := h
  update cg fs n push ok sums b _ h := by
    obtain ⟨_, _, _, _, _, -, e⟩ := b.update_cases (C := C) cg fs w n push ok sums
    rw [e]
    exact h
  sections fs t b h := by
    unfold Band.sectionsAt
    split
    next dynamic => exact fun static => absurd dynamic (Bool.eq_false_iff.1 static)
    next => exact fun _ => rfl
  filter _ _ _ _ h := h

theorem stepIn_runsBase {s t : State V} (h : stepIn C s = .next t)
    (hs : ∀ j (hj : j < Config.numBands), s.bands[j].RunsBase) : ∀ j (hj : j < Config.numBands), t.bands[j].RunsBase := by
  refine stepIn_keeps (C := C) (fun s => ∀ j (hj : j < Config.numBands), s.bands[j].RunsBase)
    (fun _ _ h => h) (fun s r b d h j hj => ?_) (fun s r d h j hj => ?_) (fun _ j hj => ?_) (fun s m f _ _ j hj => ?_)
    (fun s h => State.commit_keepsDesigned (Band.recompute_runsBase s.fs) (fun _ h => h.freeze) h)
    (fun s fr _ h j hj => processFrames_keepsBand (Band.runsBase_pathKeeps s.w) fr hj (h j hj)) h hs
  · obtain ⟨_, _, e⟩ := s.writeBand_band r b d hj
    rw [e]
    exact h j hj
  · rw [State.writeGlobal_bands]
    exact h j hj
  · simp only [State.resetIn, Vector.getElem_replicate]
    exact fun _ => rfl
  · simp only [State.prepareWith, State.updateLatency_bands, mapV_get]
    exact fun _ => rfl

end

/-! ### Legal registers -/

theorem decodeF32_within {lo hi v : Rat} (h : lo ≤ hi) {d : DataWord} (e : decodeF32 lo hi d = some v) : Within lo hi v := by
  unfold decodeF32 at e
  split at e
  · cases e
  next negative _ =>
    obtain rfl := Option.some.inj e
    cases negative
    · exact ⟨h, le_rfl⟩
    · exact ⟨le_rfl, h⟩
  · obtain rfl := Option.some.inj e
    exact Arith.clamp_mem _ h

/-- R22: a store takes a legal file to a legal file. -/
theorem BandReg.store_legal {r : BandReg} {d : DataWord} {x y : BandRegs} (h : r.store d x = some y) (hx : x.Legal) :
    y.Legal := by
  cases r
  case active | bypass | ftype | stereo | dynOn | relThresh | sideSwap | learn =>
    obtain rfl := Option.some.inj h
    exact { hx with }
  case order =>
    obtain rfl := Option.some.inj h
    exact { hx with order := legalOrder_mem _ }
  all_goals obtain ⟨v, decoded, rfl⟩ := Option.map_eq_some_iff.1 h
  case freq => exact { hx with freq := decodeF32_within (by norm_num) decoded }
  case gain => exact { hx with gain := decodeF32_within (by norm_num) decoded }
  case q => exact { hx with q := decodeF32_within (by norm_num) decoded }
  case tgain => exact { hx with tgain := decodeF32_within (by norm_num) decoded }
  case tq => exact { hx with tq := decodeF32_within (by norm_num) decoded }
  case thresh => exact { hx with thresh := decodeF32_within (by norm_num) decoded }
  case knee => exact { hx with knee := decodeF32_within (by norm_num) decoded }
  case attack => exact { hx with attack := decodeF32_within (by norm_num) decoded }
  case release => exact { hx with release := decodeF32_within (by norm_num) decoded }
  case sideFreq => exact { hx with sideFreq := decodeF32_within (by norm_num) decoded }
  case sideQ => exact { hx with sideQ := decodeF32_within (by norm_num) decoded }

theorem GlobalReg.store_legal {r : GlobalReg} {d : DataWord} {x y : GlobalRegs} (h : r.store d x = some y) (hx : x.Legal) :
    y.Legal := by
  cases r
  case lookahead =>
    obtain ⟨v, decoded, rfl⟩ := Option.map_eq_some_iff.1 h
    exact { hx with lookahead := decodeF32_within (by norm_num) decoded }
  case trim =>
    obtain ⟨v, decoded, rfl⟩ := Option.map_eq_some_iff.1 h
    exact { hx with trim := decodeF32_within (by norm_num) decoded }
  case rmsMs =>
    obtain ⟨v, decoded, rfl⟩ := Option.map_eq_some_iff.1 h
    exact { hx with rmsMs := decodeF32_within (by norm_num) decoded }
  case solo =>
    obtain rfl := Option.some.inj h
    exact { hx with solo := Nat.min_le_right _ _ }
  all_goals
    obtain rfl := Option.some.inj h
    exact { hx with }

/-- Both copies of a band's registers are legal. -/
def Band.RegsLegal (b : Band) : Prop := b.staged.Legal ∧ b.comm.Legal

theorem Band.RegsLegal.of_sameRegs (b c : Band) (same : b.SameRegs c) (h : b.RegsLegal) : c.RegsLegal := by
  obtain ⟨staged, comm⟩ := same
  rw [Band.RegsLegal, staged, comm]
  exact h

/-- R277: stop learning clamps what it writes. -/
theorem Band.RegsLegal.stopLearning {b : Band} (h : b.RegsLegal) : b.stopLearning.RegsLegal := by
  obtain ⟨staged, comm⟩ := h
  unfold Band.stopLearning
  dsimp only
  split
  · have thresh (v : Rat) : Within (-80) 0 (Arith.clamp v Config.standard.threshMin Config.standard.threshMax) :=
      Arith.clamp_mem v (by norm_num)
    have knee (v : Rat) : Within (1 / 100) 60 (Arith.clamp v Config.standard.kneeMin Config.standard.kneeMax) :=
      Arith.clamp_mem v (by norm_num)
    exact ⟨{ staged with thresh := thresh _, knee := knee _ }, { comm with thresh := thresh _, knee := knee _ }⟩
  · exact ⟨staged, comm⟩

theorem Band.RegsLegal.commitN {b : Band} (h : b.RegsLegal) (w : Nat) : (b.commitN w).RegsLegal := by
  obtain ⟨staged, comm⟩ := h
  have settled (f d t l) : (b.settled f d t l).RegsLegal := ⟨staged, { staged with }⟩
  obtain ⟨f, d, t, l, -, -, ⟨-, -, e⟩ | ⟨-, -, e⟩ | ⟨-, e⟩⟩ := b.commitN_cases (C := .standard) w <;> rw [e]
  · exact settled f d t l
  · exact (settled f d t l).stopLearning
  · exact settled f d t l

theorem Band.regsLegal_commitKeeps : Band.CommitKeeps Config.standard Band.RegsLegal where
  zeroFilter _ h := h
  commitG w b h := by
    obtain ⟨staged, comm⟩ := h
    obtain ⟨b1, rfl, e | e⟩ := b.commitG_cases (C := .standard) w <;> rw [e] <;> exact ⟨staged, { comm with }⟩
  commitB b h := by
    obtain ⟨staged, comm⟩ := h
    obtain ⟨b1, rfl, e | e⟩ := b.commitB_cases <;> rw [e] <;> exact ⟨staged, { comm with }⟩
  commitN w b _ h := h.commitN w
  resize _ _ h := h
  recompute _ _ h := h
  freeze b h := by
    obtain ⟨_, _, e⟩ := b.freeze_designOf
    rw [e]
    exact h

theorem BandRegs.reset_legal : (BandRegs.reset : BandRegs).Legal := by
  constructor <;> norm_num [BandRegs.reset, qReset, Within, legalOrders]

theorem GlobalRegs.reset_legal : (GlobalRegs.reset : GlobalRegs).Legal := by
  constructor <;> norm_num [GlobalRegs.reset, Within]

theorem GlobalRegs.Legal.takeN {x y : GlobalRegs} (hx : x.Legal) (hy : y.Legal) : (x.takeN y).Legal :=
  ⟨hx.lookahead, hx.solo, hy.trim, hy.rmsMs⟩

theorem GlobalRegs.Legal.takeStructural {x y : GlobalRegs} (hx : x.Legal) (hy : y.Legal) (takesS takesB : Bool) :
    (x.takeStructural takesS takesB y).Legal := by
  refine ⟨?_, ?_, hx.trim, hx.rmsMs⟩
  · cases takesS
    · exact hx.lookahead
    · exact hy.lookahead
  · cases takesB
    · exact hx.solo
    · exact hy.solo

theorem step_globalsLegal {s t : State} (h : step s = .next t) (hs : s.pg.Legal ∧ s.cg.Legal) : t.pg.Legal ∧ t.cg.Legal := by
  refine stepIn_keeps (C := .standard) (fun s => s.pg.Legal ∧ s.cg.Legal) (fun _ _ h => h) (fun s r b d h => ?_)
    (fun s r d h => ?_) (fun _ => ⟨GlobalRegs.reset_legal, GlobalRegs.reset_legal⟩) (fun s m f _ h => ?_) (fun s h => ?_)
    (fun s fr _ h => ?_) ((step_eq_stepIn s).symm.trans h) hs
  · rw [State.writeBand_pg, State.writeBand_cg]
    exact h
  · obtain e | ⟨x, stored, e⟩ := s.writeGlobal_eq (C := .standard) r d <;> rw [e]
    · exact h
    · exact ⟨GlobalReg.store_legal stored h.1, h.2⟩
  · simp only [State.prepareWith, State.updateLatency_pg, State.updateLatency_cg]
    exact ⟨h.1, h.1⟩
  · obtain ⟨staged, committed⟩ := h
    obtain ⟨pg, -⟩ := s.commit_frame (C := .standard)
    rw [pg, s.commit_globals]
    refine ⟨staged, (committed.takeStructural staged _ _).takeN ?_⟩
    split
    · exact staged
    · exact committed
  · obtain ⟨pg, cg, -⟩ := (processFrames_signal (C := .standard) s fr).frame
    rw [pg, cg]
    exact h

/-- Settles O39: the files of the globals and of each band are legal by what a store, a transfer and stop learning write. -/
theorem registersStayLegal : Obligations.RegistersStayLegal := by
  intro s t hs h
  obtain ⟨pg, cg⟩ := step_globalsLegal h ⟨hs.pg, hs.cg⟩
  have bands := stepIn_keepsBands (C := .standard) (P := Band.RegsLegal) ⟨BandRegs.reset_legal, BandRegs.reset_legal⟩
    (fun _ _ _ _ stored h => ⟨BandReg.store_legal stored h.1, h.2⟩) Band.regsLegal_commitKeeps (fun _ _ h => ⟨h.1, h.1⟩)
    (fun _ h => h) (Band.pathKeeps_of_sameRegs Band.RegsLegal.of_sameRegs) ((step_eq_stepIn s).symm.trans h)
    fun b => ⟨hs.staged b, hs.comm b⟩
  exact ⟨pg, cg, fun b => (bands b).1, fun b => (bands b).2⟩

/-- Settles O45: RECOMPUTE establishes the designs, and nothing but a commit writes what they are the design of. -/
theorem coefficientsStayCoherent : Obligations.CoefficientsStayCoherent := by
  intro s t hs h hp
  have coherent := stepIn_coherent ((step_eq_stepIn s).symm.trans h)
    (fun hp j hj => ⟨(hs hp).base ⟨j, hj⟩, (hs hp).side ⟨j, hj⟩⟩) hp
  exact ⟨fun b => (coherent b b.isLt).1, fun b => (coherent b b.isLt).2⟩

/-! ### Histograms -/

theorem histDecay_nonneg (slow : Bool) : (0 : Rat) ≤ histDecay slow := by
  cases slow <;> norm_num [histDecay]

theorem Band.commitN_histSound {b : Band} (h : b.hist.Sound) (w : Nat) : (b.commitN w).hist.Sound := by
  obtain ⟨f, d, t, l, -, -, ⟨-, -, e⟩ | ⟨-, -, e⟩ | ⟨-, e⟩⟩ := b.commitN_cases (C := .standard) w <;> rw [e]
  · exact Hist.empty_sound
  · obtain ⟨-, hist, -⟩ := (b.settled f d t l).stopLearning_frame (C := .standard)
    rw [hist]
    exact h
  · exact h

theorem Band.histSound_commitKeeps : Band.CommitKeeps Config.standard fun b => b.hist.Sound where
  zeroFilter _ h := h
  commitG w b h := by
    obtain ⟨-, -, hist⟩ := b.commitG_sameDet (C := .standard) w
    rw [hist]
    exact h
  commitB b h := by
    obtain ⟨-, -, hist⟩ := b.commitB_sameDet
    rw [hist]
    exact h
  commitN w b _ h := b.commitN_histSound h w
  resize _ _ h := h
  recompute _ _ h := h
  freeze b h := by
    obtain ⟨_, _, e⟩ := b.freeze_designOf
    rw [e]
    exact h

theorem Band.histSound_pathKeeps (w : Nat) : Band.PathKeeps Config.standard w fun b => b.hist.Sound where
  tick _ _ _ h := h
  update cg fs n push ok sums b _ h := by
    obtain ⟨_, _, _, _, hist, ⟨kept, -⟩ | ⟨-, v, slow, pushed⟩, e⟩ :=
      b.update_cases (C := .standard) cg fs w n push ok sums <;> rw [e]
    · exact kept ▸ h
    · exact pushed ▸ Hist.Sound.push h v (histDecay_nonneg slow)
  sections fs t b h := by
    unfold Band.sectionsAt
    split <;> exact h
  filter _ _ _ _ h := h

/-- Settles O42: a histogram is cleared or pushed to, and nothing else. -/
theorem histogramsStaySound : Obligations.HistogramsStaySound := fun s _ hs h =>
  stepIn_keepsBands (C := .standard) (P := fun b => b.hist.Sound) Hist.empty_sound (fun _ _ _ _ _ h => h)
    Band.histSound_commitKeeps (fun _ _ _ => Hist.empty_sound) (fun _ h => h) Band.histSound_pathKeeps
    ((step_eq_stepIn s).symm.trans h) hs

/-! ### Interpolation factors -/

/-- The factors of a band lie in [0, 1], and a static band's is 0 (10_state.md R32). -/
structure Band.FactorBounded (b : Band) : Prop where
  t : Within 0 1 b.det.t
  frozen : Within 0 1 b.coefs.tFrozen
  static : b.comm.dynOn = false → b.det.t = 0

theorem within_zero : Within 0 1 0 := ⟨le_rfl, zero_le_one⟩

theorem Band.FactorBounded.commitG {b : Band} (h : b.FactorBounded) (w : Nat) : (b.commitG w).FactorBounded := by
  obtain ⟨b1, rfl, e | e⟩ := b.commitG_cases (C := .standard) w <;> rw [e]
  · exact ⟨h.t, h.frozen, h.static⟩
  · exact ⟨within_zero, h.frozen, fun _ => rfl⟩

theorem Band.FactorBounded.commitB {b : Band} (h : b.FactorBounded) : b.commitB.FactorBounded := by
  obtain ⟨b1, rfl, e | e⟩ := b.commitB_cases <;> rw [e] <;> exact ⟨h.t, h.frozen, h.static⟩

theorem Band.FactorBounded.commitN {b : Band} (h : b.FactorBounded) (w : Nat) : (b.commitN w).FactorBounded := by
  obtain ⟨f, d, t, l, -, detector, e⟩ := b.commitN_cases (C := .standard) w
  have settled : (b.settled f d t l).FactorBounded := by
    rcases detector with ⟨dynamic, rest⟩ | ⟨-, rfl⟩
    · refine ⟨?_, h.frozen, fun static => absurd dynamic (Bool.eq_false_iff.1 static)⟩
      rcases rest with ⟨rfl, -⟩ | rfl
      · exact h.t
      · exact within_zero
    · exact ⟨within_zero, h.frozen, fun _ => rfl⟩
  rcases e with ⟨-, -, e⟩ | ⟨-, -, e⟩ | ⟨-, e⟩
  · rw [e]
    exact ⟨settled.t, settled.frozen, settled.static⟩
  · obtain ⟨det, -, -, -, dynOn⟩ := (b.settled f d t l).stopLearning_frame (C := .standard)
    have coefs := b.commitN_coefs (C := .standard) w
    constructor
    · rw [e, det]
      exact settled.t
    · rw [coefs]
      exact h.frozen
    · rw [e, det, dynOn]
      exact settled.static
  · rw [e]
    exact settled

theorem Band.FactorBounded.freeze {b : Band} (h : b.FactorBounded) : b.freeze.FactorBounded := by
  unfold Band.freeze
  split
  · refine ⟨h.t, ?_, h.static⟩
    dsimp only
    split
    · exact h.t
    · exact within_zero
  · exact h

theorem Band.factorBounded_commitKeeps : Band.CommitKeeps Config.standard Band.FactorBounded where
  zeroFilter _ h := ⟨h.t, h.frozen, h.static⟩
  commitG w _ h := h.commitG w
  commitB _ h := h.commitB
  commitN w _ _ h := h.commitN w
  resize _ _ h := ⟨h.t, h.frozen, h.static⟩
  recompute _ _ h := ⟨h.t, h.frozen, h.static⟩
  freeze _ h := h.freeze

/-- The detector of a dynamic band alone runs (43_detector_histogram.md R267), and its factor is a knee. -/
theorem Band.factorBounded_pathKeeps (w : Nat) : Band.PathKeeps Config.standard w Band.FactorBounded where
  tick _ _ _ h := ⟨h.t, h.frozen, h.static⟩
  update cg fs n push ok sums b detects h := by
    obtain ⟨_, ov, width, _, _, -, e⟩ := b.update_cases (C := .standard) cg fs w n push ok sums
    have dynamic : b.comm.dynOn = true := (Bool.and_eq_true_iff.1 detects).2
    rw [e]
    exact ⟨knee_mem ov width, h.frozen, fun static => absurd dynamic (Bool.eq_false_iff.1 static)⟩
  sections fs t b h := by
    unfold Band.sectionsAt
    split <;> exact ⟨h.t, h.frozen, h.static⟩
  filter _ _ _ _ h := ⟨h.t, h.frozen, h.static⟩

/-- Settles O43: the bounds are kept by each operation on a band, and the sections of a static band by RECOMPUTE. -/
theorem factorsStaySound : Obligations.FactorsStaySound := by
  intro s t hs h
  have next := (step_eq_stepIn s).symm.trans h
  have bounded := stepIn_keepsBands (C := .standard) (P := Band.FactorBounded) ⟨within_zero, within_zero, fun _ => rfl⟩
    (fun _ _ _ _ _ h => ⟨h.t, h.frozen, h.static⟩) Band.factorBounded_commitKeeps
    (fun _ _ h => ⟨within_zero, h.frozen, fun _ => rfl⟩) (fun _ h => ⟨h.t, h.frozen, h.static⟩)
    Band.factorBounded_pathKeeps next fun b => ⟨(hs b).t, (hs b).frozen, fun static => ((hs b).static static).1⟩
  have runsBase := stepIn_runsBase next fun j hj static => ((hs ⟨j, hj⟩).static static).2
  exact fun b => ⟨(bounded b).t, (bounded b).frozen, fun static => ⟨(bounded b).static static, runsBase b b.isLt static⟩⟩

end Sys2Proof.Machine
end

section
/-! PROOFS. The sizes of the buffers (20_memory.md R66, R81): what every operation does to the length of a ring and to its
position. -/

namespace Sys2Proof.Machine

/-! ### Records of slots and modes -/

theorem PerSlot.get_set {α : Type} (p : PerSlot α) (k j : Slot) (v : α) :
    (p.set k v).get j = if j = k then v else p.get j := by
  cases k <;> cases j <;> rfl

theorem PerGroup.get_set {α : Type} (p : PerGroup α) (g f : Group) (v : α) :
    (p.set g v).get f = if f = g then v else p.get f := by
  cases g <;> cases f <;> rfl

theorem PerMode.get_of {α : Type} (f : Stereo → α) (m : Stereo) : (PerMode.of f).get m = f m := by
  cases m <;> rfl

/-- What holds of every slot of a record still does after one slot is given a value of which it holds. -/
theorem PerGroup.set_slot_keeps {α : Type} {P : α → Prop} {p : PerGroup (PerSlot α)} (h : ∀ g k, P ((p.get g).get k))
    (g : Group) (k : Slot) {v : α} (hv : P v) (f : Group) (j : Slot) :
    P (((p.set g ((p.get g).set k v)).get f).get j) := by
  rw [PerGroup.get_set]
  split
  next same =>
    rw [PerSlot.get_set, ← same]
    split
    · exact hv
    · exact h f j
  next => exact h f j

section

set_option linter.unusedSectionVars false

variable {V : Type} [Zero V] [One V] [NatCast V] [Add V] [Sub V] [Neg V] [Mul V] [Div V]
  [LT V] [LE V] [BEq V] [Min V] [Max V] [DecidableLT V] [DecidableLE V] {C : Config V}

/-! ### What a sub-block does to the correction slots and the baselines -/

theorem corrRun_keeps {P : CorrSlot V → Prop} (hP : ∀ filter M c x, P c → P (corrTick filter M c x).2) (filter : Bool) (M : Nat) :
    ∀ (c : CorrSlot V) (xs : List V), P c → P (corrRun filter M c xs).2
  | _, [], hc => hc
  | c, x :: xs, hc => corrRun_keeps hP filter M _ xs (hP filter M c x hc)

section

variable {P : CorrSlot V → Prop} (hP : ∀ filter M c x, P c → P (corrTick filter M c x).2)
include hP

theorem slotStage_keepsCorr (mode : Mode) (ts : List (List V)) (g : Group) (k : Slot) (s : State V) (xs : List V)
    (h : ∀ f j, P ((s.corr.get f).get j)) (f : Group) (j : Slot) :
    P (((slotStage mode ts g k s xs C).2.corr.get f).get j) := by
  unfold slotStage
  dsimp only
  refine PerGroup.set_slot_keeps h g k ?_ f j
  split
  · exact corrRun_keeps hP _ _ _ _ (h g k)
  · exact h g k

theorem groupStage_keepsCorr (mode : Mode) (ts : List (List V)) (g : Group) (s : State V) (x : Pair V)
    (h : ∀ f j, P ((s.corr.get f).get j)) (f : Group) (j : Slot) :
    P (((groupStage mode ts g s x C).2.corr.get f).get j) := by
  unfold groupStage
  split
  · exact slotStage_keepsCorr hP _ _ _ _ _ _ (slotStage_keepsCorr hP _ _ _ _ _ _ h) f j
  · exact h f j

/-- What CORR.TICK keeps of a correction slot, a sub-block keeps of every slot. -/
theorem subblock_keepsCorr (s : State V) (fr : List (Frame V)) (h : ∀ f j, P ((s.corr.get f).get j)) (f : Group) (j : Slot) :
    P (((subblock s fr C).2.corr.get f).get j) := by
  have solo (mode : Mode) (t : State V) (x : Pair V) : (soloStage mode t x).2.corr = t.corr := by
    unfold soloStage
    split <;> rfl
  have post (mode : Mode) (t : State V) (x : Pair V) : (postStage mode t x C).2.corr = t.corr := by
    unfold postStage
    split
    · dsimp only
      split <;> rfl
    · rfl
  unfold subblock mainStage
  simp only [post]
  refine groupStage_keepsCorr hP _ _ _ _ _ (groupStage_keepsCorr hP _ _ _ _ _ (groupStage_keepsCorr hP _ _ _ _ _ ?_)) f j
  simp only [solo]
  exact h

end

/-- What RMS.TICK keeps of a tracker, the baseline trackers keep over a sub-block (43_detector_histogram.md R266). -/
theorem baselineRun_keeps {P : Tracker V → Prop} {w : Nat} (hP : ∀ tr x, P tr → P (Tracker.tick w tr x)) :
    ∀ (sides : List (V × V)) (base : PerMode (Tracker V)), (∀ m, P (base.get m)) → ∀ m, P ((baselineRun w base sides).2.get m)
  | [], _, h => h
  | side :: sides, base, h => baselineRun_keeps hP sides _ fun m => by
    rw [baselineTick, PerMode.get_of]
    exact hP _ _ (h m)

theorem subblock_base (s : State V) (fr : List (Frame V)) :
    (subblock s fr C).2.base = (baselineRun s.w s.base (sidePairs fr)).2 := by
  obtain ⟨_, _, _, _, e⟩ := subblock_mainOf (C := C) s fr
  rw [e]
  rfl

theorem subblock_lines (s : State V) (fr : List (Frame V)) :
    (subblock s fr C).2.la = s.la ∧ (subblock s fr C).2.fifo = s.fifo := by
  obtain ⟨_, _, _, _, e⟩ := subblock_mainOf (C := C) s fr
  rw [e]
  exact ⟨rfl, rfl⟩

end

/-! ### Rings -/

theorem RingAt.start (n : Nat) : RingAt n n 0 := ⟨rfl, by omega⟩

theorem RingAt.next {n len pos : Nat} (h : RingAt n len pos) (hn : 0 < n) : RingAt n len ((pos + 1) % n) :=
  ⟨h.1, .inl (Nat.mod_lt _ hn)⟩

theorem RingAt.pos_lt {n len pos : Nat} (h : RingAt n len pos) (hn : 0 < n) : pos < n := by
  obtain ⟨-, inside | ⟨empty, -⟩⟩ := h
  · exact inside
  · omega

/-- A tracker's ring has `w` entries and its position is inside. -/
def Tracker.Sized (w : Nat) (tr : Tracker) : Prop := RingAt w tr.ring.length tr.pos

theorem Tracker.Sized.zero (w : Nat) : (Tracker.zero w : Tracker).Sized w := by
  rw [Tracker.Sized, Tracker.zero, List.length_replicate]
  exact RingAt.start w

theorem Tracker.Sized.tick {w : Nat} (hw : 0 < w) {tr : Tracker} (h : tr.Sized w) (x : Rat) : (Tracker.tick w tr x).Sized w := by
  rw [Tracker.Sized, Tracker.tick, List.length_set]
  exact RingAt.next h hw

/-- A correction slot's history has its length and its position is inside. -/
def CorrSlot.Sized (c : CorrSlot) : Prop := RingAt Config.standard.corrHistLen c.hist.length c.cpos

theorem CorrSlot.Sized.tick {c : CorrSlot} (h : c.Sized) (filter : Bool) (M : Nat) (x : Rat) : (corrTick filter M c x).2.Sized := by
  have length : (c.hist.set c.cpos x).length = Config.standard.corrHistLen := List.length_set.trans h.1
  rw [CorrSlot.Sized, corrTick]
  dsimp only
  rw [length]
  exact RingAt.next ⟨rfl, h.2⟩ (by simp)

theorem CorrSlot.Sized.zeroHist (c : CorrSlot) : c.zeroHist.Sized := by
  rw [CorrSlot.Sized, CorrSlot.zeroHist, List.length_replicate]
  exact RingAt.start _

/-! ### Bands -/

theorem Band.Sized.of_parts {w : Nat} {b : Band} (rms : b.det.rms.Sized w) (h0 : b.fstate.s0.length = 8)
    (h1 : b.fstate.s1.length = 8) : b.Sized w := ⟨rms, h0, h1⟩

theorem Band.Sized.congr {w : Nat} {b c : Band} (h : b.Sized w) (rms : c.det.rms = b.det.rms) (fstate : c.fstate = b.fstate) :
    c.Sized w := by
  constructor
  · rw [rms]
    exact h.rms
  · rw [fstate]
    exact h.slot0
  · rw [fstate]
    exact h.slot1

theorem Band.Sized.zeroFilter {w : Nat} {b : Band} (h : b.Sized w) : b.zeroFilter.Sized w := ⟨h.rms, rfl, rfl⟩

theorem Band.Sized.resetDetector {w : Nat} {b : Band} (h : b.Sized w) : (b.resetDetector w).Sized w :=
  .of_parts (Tracker.Sized.zero w) h.slot0 h.slot1

theorem Band.Sized.commitG {w : Nat} {b : Band} (h : b.Sized w) : (b.commitG w).Sized w := by
  have taken : ({ b with comm := { b.comm with active := b.staged.active, stereo := b.staged.stereo } } : Band).Sized w :=
    h.congr rfl rfl
  obtain ⟨b1, rfl, e | e⟩ := b.commitG_cases (C := .standard) w <;> rw [e]
  · exact taken
  · exact taken.zeroFilter.resetDetector

theorem Band.Sized.commitB {w : Nat} {b : Band} (h : b.Sized w) : b.commitB.Sized w := by
  have taken : ({ b with comm := { b.comm with bypass := b.staged.bypass } } : Band).Sized w := h.congr rfl rfl
  obtain ⟨b1, rfl, e | e⟩ := b.commitB_cases <;> rw [e]
  · exact taken
  · exact taken.zeroFilter

theorem Band.Sized.commitN {w : Nat} {b : Band} (h : b.Sized w) : (b.commitN w).Sized w := by
  obtain ⟨f, d, t, l, filter, detector, e⟩ := b.commitN_cases (C := .standard) w
  have rms : d.rms.Sized w := by
    rcases detector with ⟨-, ⟨rfl, -⟩ | rfl⟩ | ⟨-, rfl⟩
    · exact h.rms
    · exact Tracker.Sized.zero w
    · exact h.rms
  have settled : (b.settled f d t l).Sized w := by
    rcases filter with rfl | rfl
    · exact .of_parts rms h.slot0 h.slot1
    · exact .of_parts rms rfl rfl
  rcases e with ⟨-, -, e⟩ | ⟨-, -, e⟩ | ⟨-, e⟩ <;> rw [e]
  · exact settled.congr rfl rfl
  · obtain ⟨det, -, fstate, -⟩ := (b.settled f d t l).stopLearning_frame (C := .standard)
    exact settled.congr (congrArg Detector.rms det) fstate
  · exact settled

theorem Band.Sized.designOf {w : Nat} {b c : Band} (h : b.Sized w) (d : b.DesignOf c) : c.Sized w := by
  obtain ⟨_, _, rfl⟩ := d
  exact h.congr rfl rfl

theorem Band.sized_pathKeeps {w : Nat} (hw : 0 < w) : Band.PathKeeps Config.standard w (Band.Sized w) where
  tick b side _ h := .of_parts (Tracker.Sized.tick hw h.rms _) h.slot0 h.slot1
  update cg fs n push ok sums b _ h := by
    obtain ⟨_, _, _, _, _, -, e⟩ := b.update_cases (C := .standard) cg fs w n push ok sums
    rw [e]
    exact h.congr rfl rfl
  sections fs t b h := by
    unfold Band.sectionsAt
    split <;> exact h.congr rfl rfl
  filter es slot x b h := by
    cases slot
    · exact ⟨h.rms, (cascade_length ..).trans h.slot0, h.slot1⟩
    · exact ⟨h.rms, h.slot0, (cascade_length ..).trans h.slot1⟩

/-! ### Correction histories -/

theorem zeroCorrHist_sized (corr : PerGroup (PerSlot CorrSlot)) (g : Group) (k : Slot) :
    (((zeroCorrHist corr).get g).get k).Sized := by
  cases g <;> cases k <;> exact CorrSlot.Sized.zeroHist _

theorem State.CorrSized.commitG {s : State} (h : s.CorrSized) : s.commitG.CorrSized := by
  intro g k
  have comesIn (f : Group) : ((groupComesIn s.bands (mapV (fun b => Band.commitG s.w b) s.bands) s.corr f).get k).Sized := by
    unfold groupComesIn
    split
    · cases k <;> exact CorrSlot.Sized.zeroHist _
    · exact h f k
  cases g
  · exact h .st k
  · exact comesIn .lr
  · exact comesIn .ms

theorem State.CorrSized.commitGlobal {s : State} (h : s.CorrSized) : s.commitGlobal.CorrSized := by
  rw [State.CorrSized, State.commitGlobal_corr]
  exact h

theorem State.CorrSized.recompute {s : State} (h : s.CorrSized) : s.recompute.CorrSized := by
  intro g k
  obtain ⟨hist, cpos⟩ := s.recompute_corrHist (C := .standard) g k
  rw [hist, cpos]
  exact h g k

theorem State.CorrSized.updateLatency {s : State} (h : s.CorrSized) : s.updateLatency.CorrSized := by
  rw [State.CorrSized, State.updateLatency_corr]
  exact h

theorem State.CorrSized.commit {s : State} (h : s.CorrSized) : s.commit.CorrSized :=
  s.commit_keeps (C := .standard) State.CorrSized (fun s _ => zeroCorrHist_sized s.corr) (fun _ h => h.commitG)
    (fun _ h => h) (fun _ h => h) (fun _ h => h.commitGlobal) (fun _ h => h.recompute) (fun _ h => h.updateLatency) h

theorem State.corrSized_prepareWith (s : State) (m f : Nat) : (s.prepareWith m f).CorrSized := by
  have cleared : (s.prepareClear m f).CorrSized := zeroCorrHist_sized s.corr
  rw [State.CorrSized, State.prepareWith, State.updateLatency_corr]
  exact cleared.recompute

theorem State.CorrSized.subblock {s : State} (h : s.CorrSized) (fr : List Frame) : (subblock s fr).2.CorrSized :=
  subblock_keepsCorr (P := CorrSlot.Sized) (C := .standard) (fun filter M _ x hc => hc.tick filter M x) s fr h

theorem stepIn_corrSized {s t : State} (h : stepIn Config.standard s = .next t) (hs : s.CorrSized) : t.CorrSized := by
  refine stepIn_keeps (C := .standard) State.CorrSized (fun _ _ h => h) (fun s r b d h => ?_) (fun s r d h => ?_)
    (fun _ g k => ?_) (fun s m f _ _ => s.corrSized_prepareWith m f) (fun _ h => h.commit) (fun s fr _ h => ?_) h hs
  · rw [State.CorrSized, State.writeBand_corr]
    exact h
  · rw [State.CorrSized, State.writeGlobal_corr]
    exact h
  · have reset : ((State.resetIn Config.standard).corr.get g).get k = CorrSlot.reset := by cases g <;> cases k <;> rfl
    rw [reset, CorrSlot.reset, List.length_replicate]
    exact RingAt.start _
  · have keeps : State.PathKeeps Config.standard State.CorrSized := by
      constructor
      case sub => exact fun _ fr h => h.subblock fr
      case front => exact fun _ _ h => h
      case push =>
        intro s f h
        unfold fifoPush
        dsimp only
        split
        · exact State.CorrSized.subblock (s := { s with fifo := { s.fifo with inp := s.fifo.inp.set s.fifo.pos f } }) h _
        · exact h
      case emit => exact fun _ _ h => h
    exact keeps.processFrames s fr h

/-! ### A prepared block -/

theorem rmsWindow_pos (cg : GlobalRegs) (fs : Nat) : 0 < rmsWindow cg fs := Nat.le_max_left 1 _

theorem subLen_pos (fs : Nat) : 0 < subLen fs := Nat.le_max_left 1 _

theorem State.Sized.w_pos {s : State} (h : s.Sized) : 0 < s.w := h.w ▸ rmsWindow_pos ..

theorem State.Sized.sublen_pos {s : State} (h : s.Sized) : 0 < s.sublen := h.sublen ▸ subLen_pos _

/-- What the sizes read of a state: not the registers but LOOKAHEAD and RMS_MS, not what the buffers hold. -/
theorem State.Sized.congr {s t : State} (h : s.Sized) (fs : t.fs = s.fs) (sublen : t.sublen = s.sublen) (fifo : t.fifo = s.fifo)
    (la : t.la = s.la) (w : t.w = s.w) (base : t.base = s.base) (cg : t.cg = s.cg) (corr : t.CorrSized)
    (bands : ∀ j (hj : j < Config.numBands), t.bands[j].Sized s.w) : t.Sized := by
  constructor
  case fs => exact fs ▸ h.fs
  case sublen => rw [sublen, fs, h.sublen]
  case fifoIn => rw [sublen, fifo]; exact h.fifoIn
  case fifoOut => rw [sublen, fifo]; exact h.fifoOut
  case la => rw [la, cg, fs]; exact h.la
  case w => rw [w, cg, fs, h.w]
  case base => rw [w, base]; exact h.base
  case bands => rw [w]; exact fun b => bands b b.isLt
  case corr => exact corr

/-- A zeroed lookahead line and a zeroed FIFO are sized. -/
theorem laLine_zero_ring (n : Nat) : RingAt n (LaLine.zero n : LaLine).buf.length (LaLine.zero n : LaLine).pos := by
  rw [LaLine.zero, List.length_replicate]
  exact RingAt.start n

theorem fifo_zero_ring (n : Nat) : RingAt n (Fifo.zero n : Fifo).inp.length (Fifo.zero n : Fifo).pos := by
  rw [Fifo.zero, List.length_replicate]
  exact RingAt.start n

theorem fifo_zero_out (n : Nat) : (Fifo.zero n : Fifo).out.length = n := by
  rw [Fifo.zero, List.length_replicate]

theorem State.Sized.commitS {s : State} (h : s.Sized) : s.commitS.Sized := by
  constructor
  case fs => exact h.fs
  case sublen => exact h.sublen
  case fifoIn =>
    rw [State.commitS]
    dsimp only
    split
    · exact h.fifoIn
    · exact fifo_zero_ring _
  case fifoOut =>
    rw [State.commitS]
    dsimp only
    split
    · exact h.fifoOut
    · exact fifo_zero_out _
  case la =>
    rw [State.commitS]
    dsimp only
    split
    next same => exact same ▸ h.la
    next => exact laLine_zero_ring _
  case w => exact h.w
  case base => exact h.base
  case bands =>
    intro b
    rw [State.commitS_bands, mapV_getFin]
    exact (h.bands b).zeroFilter
  case corr => exact zeroCorrHist_sized s.corr

/-- R338, 43_detector_histogram.md R255: W and every tracker follow RMS_MS. -/
theorem State.Sized.commitGlobal {s : State} (h : s.Sized) : s.commitGlobal.Sized := by
  unfold State.commitGlobal
  extract_lets cg s1
  by_cases same : (cg.rmsMs == s.cg.rmsMs) = true
  · have e1 : s1 = s := if_pos same
    clear_value s1
    subst e1
    refine { h with w := ?_ }
    change s1.w = rmsWindow cg s1.fs
    rw [h.w, rmsWindow, rmsWindow, eq_of_beq same]
  · have e1 : s1 = s.resizeTrackers (rmsWindow cg s.fs) := if_neg same
    clear_value s1
    subst e1
    constructor
    case fs => exact h.fs
    case sublen => exact h.sublen
    case fifoIn => exact h.fifoIn
    case fifoOut => exact h.fifoOut
    case la => exact h.la
    case w => rfl
    case base =>
      intro m
      change Tracker.Sized (rmsWindow cg s.fs) ((PerMode.of fun _ => Tracker.zero (rmsWindow cg s.fs)).get m)
      rw [PerMode.get_of]
      exact Tracker.Sized.zero _
    case bands =>
      intro b
      rw [State.resizeTrackers]
      simp only [mapV_getFin]
      exact .of_parts (Tracker.Sized.zero _) (h.bands b).slot0 (h.bands b).slot1
    case corr => exact h.corr

theorem State.Sized.recompute {s : State} (h : s.Sized) : s.recompute.Sized :=
  h.congr rfl rfl rfl rfl rfl rfl rfl h.corr.recompute
    fun j hj => Band.Sized.designOf (h.bands ⟨j, hj⟩) (recomputeBands_designOf ..)

theorem State.Sized.updateLatency {s : State} (h : s.Sized) : s.updateLatency.Sized := by
  refine h.congr (by simp) (by simp) (by simp) (by simp) (by simp) (by simp) (by simp) h.corr.updateLatency fun j hj => ?_
  rw [State.updateLatency_bands]
  exact h.bands ⟨j, hj⟩

theorem State.Sized.commit {s : State} (h : s.Sized) : s.commit.Sized := by
  refine s.commit_keeps (C := .standard) State.Sized (fun _ h => h.commitS) (fun s h => ?_) (fun s h => ?_) (fun s h => ?_)
    (fun _ h => h.commitGlobal) (fun _ h => h.recompute) (fun _ h => h.updateLatency) h
  · refine h.congr rfl rfl rfl rfl rfl rfl rfl h.corr.commitG fun j hj => ?_
    rw [State.commitG_bands, mapV_get]
    exact Band.Sized.commitG (h.bands ⟨j, hj⟩)
  · have bands : ∀ b : Fin 16, s.commitB.bands[b].Sized s.w := fun b => by
      rw [State.commitB_bands, mapV_getFin]
      exact (h.bands b).commitB
    exact { h with bands := bands }
  · refine h.congr rfl rfl rfl rfl rfl rfl rfl h.corr fun j hj => ?_
    rw [State.commitBands_bands, mapV_get]
    split
    · exact Band.Sized.commitN (h.bands ⟨j, hj⟩)
    · exact h.bands ⟨j, hj⟩

theorem State.sized_prepareClear (s : State) (m : Nat) {f : Nat} (hf : f ≠ 0) : (s.prepareClear m f).Sized := by
  constructor
  case fs => exact Nat.pos_of_ne_zero hf
  case sublen => rfl
  case fifoIn => exact fifo_zero_ring _
  case fifoOut => exact fifo_zero_out _
  case la => exact laLine_zero_ring _
  case w => rfl
  case base =>
    intro mode
    rw [State.prepareClear_base, PerMode.get_of]
    exact Tracker.Sized.zero _
  case bands =>
    intro b
    rw [State.prepareClear_bands, mapV_getFin]
    exact .of_parts (Tracker.Sized.zero _) rfl rfl
  case corr => exact zeroCorrHist_sized s.corr

/-- R330: PREPARE sizes every buffer. -/
theorem State.sized_prepareWith (s : State) (m : Nat) {f : Nat} (hf : f ≠ 0) : (s.prepareWith m f).Sized := by
  have designed := (s.sized_prepareClear m hf).recompute
  refine State.Sized.updateLatency (designed.congr rfl rfl rfl rfl rfl rfl rfl designed.corr fun j hj => ?_)
  rw [mapV_get]
  exact Band.Sized.congr (designed.bands ⟨j, hj⟩) rfl rfl

theorem State.Sized.subblock {s : State} (h : s.Sized) (fr : List Frame) : (subblock s fr).2.Sized := by
  obtain ⟨-, cg, -, -, -, -, -, fs, -, sublen, -, -, w, -⟩ := (subblock_signal (C := .standard) s fr).frame
  obtain ⟨la, fifo⟩ := subblock_lines (C := .standard) s fr
  constructor
  case fs => exact fs ▸ h.fs
  case sublen => rw [sublen, fs, h.sublen]
  case fifoIn => rw [sublen, fifo]; exact h.fifoIn
  case fifoOut => rw [sublen, fifo]; exact h.fifoOut
  case la => rw [la, cg, fs]; exact h.la
  case w => rw [w, cg, fs, h.w]
  case base =>
    rw [w, subblock_base]
    exact baselineRun_keeps (P := Tracker.Sized s.w) (fun _ x htr => htr.tick h.w_pos x) _ _ h.base
  case bands =>
    rw [w]
    exact fun b => subblock_keeps (Band.sized_pathKeeps h.w_pos) fr b b.isLt (h.bands b)
  case corr => exact h.corr.subblock fr

/-- R343: the lookahead line keeps its length. -/
theorem LaLine.exchange_ring {n : Nat} {l : LaLine} (h : RingAt n l.buf.length l.pos) (x : Rat × Rat) :
    RingAt n (l.exchange x).2.buf.length (l.exchange x).2.pos := by
  obtain ⟨length, -⟩ := id h
  unfold LaLine.exchange
  split
  · exact h
  next filled =>
    dsimp only
    rw [List.length_set, length]
    exact ⟨rfl, .inl (Nat.mod_lt _ (by omega))⟩

theorem State.Sized.frontFrame {s : State} (h : s.Sized) (f : Frame) : (frontFrame s f).2.Sized :=
  { h with la := LaLine.exchange_ring h.la (f.mL, f.mR) }

/-- R347: a full input buffer is handed on and the output buffer is what comes back, frame for frame. -/
theorem State.Sized.fifoPush {s : State} (h : s.Sized) (f : Frame) : (fifoPush s f).2.Sized := by
  have inp : (s.fifo.inp.set s.fifo.pos f).length = s.sublen := List.length_set.trans h.fifoIn.1
  have inside := h.fifoIn.pos_lt h.sublen_pos
  unfold Machine.fifoPush
  dsimp only
  split
  · have handed : ({ s with fifo := { s.fifo with inp := s.fifo.inp.set s.fifo.pos f } } : State).Sized :=
      { h with fifoIn := ⟨inp, h.fifoIn.2⟩ }
    have run := handed.subblock (s.fifo.inp.set s.fifo.pos f)
    obtain ⟨-, -, -, -, -, -, -, -, -, sublen, -⟩ :=
      (subblock_signal (C := .standard) { s with fifo := { s.fifo with inp := s.fifo.inp.set s.fifo.pos f } }
        (s.fifo.inp.set s.fifo.pos f)).frame
    refine { run with fifoIn := ⟨inp.trans sublen.symm, .inl ?_⟩, fifoOut := ?_ }
    · exact sublen.symm ▸ h.sublen_pos
    · exact ((subblock_length ..).trans inp).trans sublen.symm
  · exact { h with fifoIn := ⟨inp, .inl (by dsimp only; omega)⟩ }

theorem State.sized_pathKeeps : State.PathKeeps Config.standard State.Sized where
  sub _ fr h := h.subblock fr
  front _ f h := h.frontFrame f
  push _ f h := h.fifoPush f
  emit _ _ h := { h with }

theorem stepIn_sized {s t : State} (h : stepIn Config.standard s = .next t) (hs : s.prepared = true → s.Sized) :
    t.prepared = true → t.Sized := by
  refine stepIn_keeps (C := .standard) (fun s => s.prepared = true → s.Sized) (fun _ _ h hp => { h hp with })
    (fun s r b d h hp => ?_) (fun s r d h hp => ?_) (fun _ => nofun) (fun s m f hf _ _ => s.sized_prepareWith m hf)
    (fun s h hp => ?_) (fun s fr hp h _ => State.sized_pathKeeps.processFrames s fr (h hp)) h hs
  · rw [State.writeBand_prepared] at hp
    have corr : (s.writeBand r b d).CorrSized := by
      rw [State.CorrSized, State.writeBand_corr]
      exact (h hp).corr
    refine (h hp).congr (by simp) (by simp) (by simp) (by simp) (by simp) (by simp) (by simp) corr fun j hj => ?_
    obtain ⟨_, _, e⟩ := s.writeBand_band (C := .standard) r b d hj
    rw [e]
    exact Band.Sized.congr ((h hp).bands ⟨j, hj⟩) rfl rfl
  · rw [State.writeGlobal_prepared] at hp
    have corr : (s.writeGlobal r d).CorrSized := by
      rw [State.CorrSized, State.writeGlobal_corr]
      exact (h hp).corr
    refine (h hp).congr (by simp) (by simp) (by simp) (by simp) (by simp) (by simp) (by simp) corr fun j hj => ?_
    rw [State.writeGlobal_bands]
    exact (h hp).bands ⟨j, hj⟩
  · obtain ⟨-, prepared, -⟩ := s.commit_frame (C := .standard)
    exact (h (prepared ▸ hp)).commit

/-- Settles O46: the correction histories are sized at all times, the other buffers in a prepared block. -/
theorem buffersStaySized : Obligations.BuffersStaySized := by
  intro s t ⟨corr, sized⟩ h
  have next := (step_eq_stepIn s).symm.trans h
  exact ⟨stepIn_corrSized next corr, stepIn_sized next sized⟩

end Sys2Proof.Machine
end

section
/-! PROOFS. RESET and PREPARE: the reset state and its soundness (70_reset_and_hazards.md R411), what PREPARE leaves
(45_controller.md R330), the latency formula (R352) and its event (R353). -/

namespace Sys2Proof.Machine

/-! ### The reset state -/

theorem State.reset_band (b : Fin 16) : State.reset.bands[b] = Band.reset := by
  simp [State.reset, State.resetIn]

/-- f32val(0x3F3504F3) (10_state.md R21). -/
theorem qReset_eq : (qReset : Rat) = 11863283 / 2 ^ 24 := by
  norm_num [qReset]

/-- Settles O47: nothing is staged, coefficients and FIFO are empty, the histories have their length. -/
theorem resetMeetsInvariants : Obligations.ResetMeetsInvariants := by
  have corr : State.reset.CorrSized := by
    intro g k
    have slot : ((State.reset.corr.get g).get k) = CorrSlot.reset := by cases g <;> cases k <;> rfl
    rw [slot, CorrSlot.reset, List.length_replicate]
    exact RingAt.start _
  refine ⟨⟨GlobalRegs.reset_legal, GlobalRegs.reset_legal, ?_, ?_⟩, State.nothingLost_resetIn Ports.idle, ⟨?_, nofun⟩, ?_, ?_,
    State.reset_latencyCurrent, rfl, corr, nofun⟩ <;> intro b <;> rw [State.reset_band]
  · exact BandRegs.reset_legal
  · exact BandRegs.reset_legal
  · exact ⟨nofun, nofun, nofun⟩
  · exact Hist.empty_sound
  · exact ⟨within_zero, within_zero, fun _ => ⟨rfl, rfl⟩⟩

/-- Settles O25: field by field. -/
theorem resetValues : Obligations.ResetValues := by
  intro s
  refine ⟨s.resetCmd, rfl, rfl, fun b => ?_, rfl, rfl, rfl, rfl, rfl, rfl, rfl, rfl, rfl, rfl, rfl, rfl, fun m => ?_, rfl, rfl,
    fun g k => ?_, rfl, rfl, rfl, fun k => ?_⟩
  · have band : s.resetCmd.bands[b] = Band.reset := State.reset_band b
    rw [band]
    dsimp only
    rw [← qReset_eq]
    exact ⟨rfl, rfl, rfl, rfl, rfl, rfl, rfl, rfl, fun k => by cases k <;> exact ⟨rfl, rfl⟩, rfl, Config.standard_levelFloorDb,
      rfl, rfl⟩
  · cases m <;> exact ⟨rfl, rfl⟩
  · have slot : ((s.resetCmd.corr.get g).get k) = CorrSlot.reset := by cases g <;> cases k <;> rfl
    rw [slot, CorrSlot.reset, Config.standard_corrHistLen]
  · cases k <;> rfl

/-! ### RECOMPUTE and LATENCY -/

section

set_option linter.unusedSectionVars false

variable {V : Type} [Zero V] [One V] [NatCast V] [Add V] [Sub V] [Neg V] [Mul V] [Div V]
  [LT V] [LE V] [BEq V] [Min V] [Max V] [DecidableLT V] [DecidableLE V] {C : Config V}

/-- `c` is `b` with at most its designs and the registers that publish them changed (R339). -/
def Band.Redesigned (b c : Band V) : Prop := ∃ coefs gain q nsec,
  c = { b with coefs := coefs, disp := { b.disp with curGain := gain, curQ := q, nsec := nsec } }

theorem Band.Redesigned.trans {b c d : Band V} (h : b.Redesigned c) (k : c.Redesigned d) : b.Redesigned d := by
  obtain ⟨_, _, _, _, rfl⟩ := h
  obtain ⟨coefs, gain, q, nsec, rfl⟩ := k
  exact ⟨coefs, gain, q, nsec, rfl⟩

theorem Band.recompute_redesigned (fs : Nat) (b : Band V) : b.Redesigned (b.recompute fs) := ⟨_, _, _, _, rfl⟩

theorem Band.freeze_redesigned (b : Band V) : b.Redesigned b.freeze := by
  unfold Band.freeze
  split
  · exact ⟨_, _, _, b.disp.nsec, rfl⟩
  · exact ⟨b.coefs, b.disp.curGain, b.disp.curQ, b.disp.nsec, rfl⟩

/-- RECOMPUTE writes designs and what publishes them, and nothing else of a band (R339). -/
theorem recomputeBands_redesigned (es : Structure) (fs : Nat) (bands : Vector (Band V) Config.numBands) {j : Nat}
    (hj : j < Config.numBands) : bands[j].Redesigned (recomputeBands es fs bands)[j] := by
  unfold recomputeBands
  dsimp only
  split
  · simpa using (bands[j].recompute_redesigned fs).trans (Band.freeze_redesigned _)
  · simpa using bands[j].recompute_redesigned fs

/-- R353: LATENCY, LAT_SEQ and the events rest, or LATENCY changes, is counted and signalled. -/
def State.LatencyStep (s t : State V) : Prop :=
  t.latency = s.latency ∧ t.latSeq = s.latSeq ∧ t.io.events = s.io.events ∨
  t.latency ≠ s.latency ∧ t.latSeq = s.latSeq + 1 ∧ t.io.events = s.io.events ++ [.latencyChanged t.latency]

theorem State.LatencyStep.rest {s t : State V} (latency : t.latency = s.latency) (latSeq : t.latSeq = s.latSeq)
    (events : t.io.events = s.io.events) : s.LatencyStep t := .inl ⟨latency, latSeq, events⟩

/-- What comes before and rests, or comes after and rests, does not count. -/
theorem State.LatencyStep.congr {s s' t t' : State V} (h : s.LatencyStep t) (latency : s'.latency = s.latency)
    (latSeq : s'.latSeq = s.latSeq) (events : s'.io.events = s.io.events) (latency' : t'.latency = t.latency)
    (latSeq' : t'.latSeq = t.latSeq) (events' : t'.io.events = t.io.events) : s'.LatencyStep t' := by
  unfold State.LatencyStep
  rw [latency, latSeq, events, latency', latSeq', events']
  exact h

/-- R353: what bringing LATENCY up to date can do. -/
theorem State.updateLatency_cases (s : State V) :
    s.latencyOf = s.latency ∧ s.updateLatency = s ∨ s.latencyOf ≠ s.latency ∧ s.updateLatency = { s with
      latency := s.latencyOf, latSeq := s.latSeq + 1
      io := { s.io with events := s.io.events ++ [.latencyChanged s.latencyOf] } } := by
  unfold State.updateLatency
  split
  next same => exact .inl ⟨same, rfl⟩
  next changed => exact .inr ⟨changed, rfl⟩

theorem State.updateLatency_step (s : State V) : s.LatencyStep s.updateLatency := by
  obtain ⟨-, e⟩ | ⟨changed, e⟩ := s.updateLatency_cases (C := C) <;> rw [e]
  · exact .rest rfl rfl rfl
  · exact .inr ⟨changed, rfl, rfl⟩

theorem State.commitStructural_ports (s : State V) :
    s.commitStructural.latency = s.latency ∧ s.commitStructural.latSeq = s.latSeq ∧ s.commitStructural.io = s.io := by
  rcases s.commitStructural_cases (C := C) with ⟨-, e⟩ | ⟨-, -, e⟩ | ⟨-, -, -, e⟩ | ⟨-, -, -, e⟩ <;> rw [e] <;>
    exact ⟨rfl, rfl, rfl⟩

/-- A commit brings LATENCY up to date once, at its end (R333). -/
theorem State.commit_latencyStep (s : State V) : s.LatencyStep s.commit := by
  obtain ⟨latency, latSeq, io⟩ := s.commitStructural_ports (C := C)
  rcases s.commit_cases (C := C) with ⟨-, e⟩ | ⟨-, -, e⟩ | ⟨-, -, e⟩ <;> rw [e]
  · exact .rest rfl rfl rfl
  · exact (State.updateLatency_step _).congr (by simp [latency]) (by simp [latSeq]) (by simp [io]) rfl rfl rfl
  · exact (State.updateLatency_step _).congr (by simp [latency]) (by simp [latSeq]) (by simp [io]) rfl rfl rfl

theorem State.prepareWith_latencyStep (s : State V) (m f : Nat) : s.LatencyStep (s.prepareWith m f) := by
  unfold State.prepareWith
  refine (State.updateLatency_step _).congr ?_ ?_ ?_ rfl rfl rfl <;> simp

end

theorem execProcess_latencyStep {s t : State} {n : Nat} (h : execProcess n s = .next t) : s.LatencyStep t := by
  cases hp : s.prepared with
  | true =>
    obtain ⟨fr, -, rfl⟩ := execProcess_prepared hp h
    have signal := processFrames_signal (C := .standard) (s.consume n).commit fr
    obtain ⟨-, -, -, -, -, -, -, -, -, -, latency, latSeq, -⟩ := signal.frame
    obtain ⟨-, -, -, -, events, -⟩ := signal.ports
    exact (s.consume n).commit_latencyStep.congr rfl rfl rfl latency latSeq events
  | false =>
    obtain ⟨fr, -, rfl⟩ := execProcess_unprepared hp h
    exact .rest rfl rfl rfl

/-- Settles O37: a command but RESET brings LATENCY up to date at most once. -/
theorem latencyEvents : Obligations.LatencyEvents := by
  refine ⟨fun i s t notReset h => ?_, fun s t h => ?_⟩
  · change s.LatencyStep t
    obtain ⟨-, rfl⟩ | ⟨reset, -⟩ | ⟨m, f, -, prepare⟩ | ⟨n, -, process⟩ | ⟨r, rfl⟩ | ⟨r, b, d, rfl⟩ | ⟨r, d, rfl⟩ :=
      exec_cases_by_command h
    · exact .rest rfl rfl rfl
    · exact absurd reset notReset
    · obtain rfl := Host.Outcome.next.inj prepare
      split
      · exact .rest rfl rfl rfl
      · exact s.prepareWith_latencyStep m f
    · exact execProcess_latencyStep process
    · exact .rest (by simp) (by simp) (by simp [State.respond_io])
    · exact .rest (by simp) (by simp) (by simp)
    · exact .rest (by simp) (by simp) (by simp)
  · obtain rfl := Host.Outcome.next.inj h
    exact ⟨rfl, rfl, rfl⟩

/-! ### The latency formula -/

theorem groupInUse_iff {bands : Vector Band Config.numBands} {g : Group} (hg : g ≠ .st) : groupInUse bands g = true ↔
    ∃ b : Fin 16, bands[b].comm.active = true ∧
      (bands[b].comm.stereo = g.memberMode .s0 ∨ bands[b].comm.stereo = g.memberMode .s1) := by
  have uses : groupInUse bands g = bands.toList.any (·.usesGroup g) := by
    cases g
    · exact absurd rfl hg
    · rfl
    · rfl
  rw [uses, List.any_eq_true]
  constructor
  · rintro ⟨b, member, used⟩
    obtain ⟨j, hj, rfl⟩ := List.getElem_of_mem member
    refine ⟨⟨j, by simpa using hj⟩, ?_⟩
    simpa [Band.usesGroup] using used
  · rintro ⟨b, used⟩
    exact ⟨bands[b], by simp, by simpa [Band.usesGroup] using used⟩

/-- A truth value as the number a formula counts it as. -/
theorem toNat_eq_of_iff {p : Prop} {v : Bool} (h : v = true ↔ p) {n : Nat} (one : p → n = 1) (zero : ¬ p → n = 0) :
    v.toNat = n := by
  cases v
  · exact (zero fun hp => Bool.false_ne_true (h.2 hp)).symm
  · exact (one (h.1 rfl)).symm

/-- Settles O38: the number of groups in use is 1 + l + r, and each correcting structure has its filter's delay. -/
theorem latencyFormula : Obligations.LatencyFormula := by
  intro s la lr ms l r l1 l0 r1 r0
  have groups : groupCount s.bands = 1 + l + r := by
    rw [groupCount, toNat_eq_of_iff (groupInUse_iff (by decide)) l1 l0, toNat_eq_of_iff (groupInUse_iff (by decide)) r1 r0]
  have correction : (if (effStruct s.cg).correcting then groupCount s.bands * (effStruct s.cg).corrM else 0) =
      (if s.cg.zeroLat then 0 else
        match s.cg.struct with
        | .matched => (1 + l + r) * 512
        | .mixed => (1 + l + r) * 256
        | .linear => (1 + l + r) * 2048
        | _ => 0) := by
    rw [groups, effStruct]
    cases s.cg.zeroLat <;> cases s.cg.struct <;> rfl
  rw [State.latencyOf, correction]
  rfl

/-! ### PREPARE -/

theorem exec_prepare (m f : Nat) (s : State) : exec (.prepare m f) s = .next (if f = 0 then s else s.prepareWith m f) := rfl

/-- SUBLEN at the default sub-block of 1 ms (R362). -/
theorem subLen_standard (f : Nat) : subLen f = max 1 (f / 1000) := by
  have whole : ((f : Rat) * (1 / 1000)).floor = ((f / 1000 : Nat) : Int) := by
    rw [mul_one_div]
    exact Rat.floor_natCast_div_natCast f 1000
  rw [subLen, Config.standard_subblockSec, Config.standard_floor, whole]
  rfl

/-- R330: what PREPARE makes of a band, but for its coefficients and what publishes them. -/
theorem State.prepareWith_band (s : State) (m f : Nat) (b : Fin 16) :
    (s.bands[b].prepare (rmsWindow s.pg f)).Redesigned (s.prepareWith m f).bands[b] := by
  have cleared : (s.prepareClear m f).bands[(b : Nat)] = s.bands[(b : Nat)].prepare (rmsWindow s.pg f) := by
    rw [State.prepareClear_bands, mapV_get]
  rw [Fin.getElem_fin, Fin.getElem_fin]
  simp only [State.prepareWith, State.updateLatency_bands, mapV_get, State.recompute_bands]
  rw [← cleared]
  exact (recomputeBands_redesigned ..).trans ⟨_, _, _, _, rfl⟩

theorem State.prepareWith_corr (s : State) (m f : Nat) (g : Group) (k : Slot) :
    (∀ x ∈ (((s.prepareWith m f).corr.get g).get k).hist, x = 0) ∧ (((s.prepareWith m f).corr.get g).get k).cpos = 0 := by
  obtain ⟨hist, cpos⟩ := (s.prepareClear m f).recompute_corrHist (C := .standard) g k
  rw [State.prepareWith, State.updateLatency_corr]
  dsimp only
  rw [hist, cpos]
  exact zeroCorrHist_zeroed s.corr g k

/-- Settles O26: sizes, flags and signal state are those of the clearing; RECOMPUTE and the update of LATENCY come after it. -/
theorem prepare : Obligations.Prepare := by
  intro s m f
  refine ⟨by rw [exec_prepare, if_pos rfl], fun hf => ⟨s.prepareWith m f, by rw [exec_prepare, if_neg hf.ne'], ?_⟩⟩
  have w : (s.prepareWith m f).w = rmsWindow s.pg f := by simp [State.prepareWith]
  have sublen : (s.prepareWith m f).sublen = subLen f := by simp [State.prepareWith]
  rw [w, sublen]
  refine ⟨by simp [State.prepareWith], by simp [State.prepareWith], by simp [State.prepareWith], subLen_standard f,
    by simp [State.prepareWith], by simp [State.prepareWith], by simp [State.prepareWith], by simp [State.prepareWith],
    by simp [State.prepareWith], by simp [State.prepareWith], fun b => ?_, fun mo => ?_, by simp [State.prepareWith]; rfl,
    by simp [State.prepareWith]; rfl, rfl, s.prepareWith_corr m f, fun k => ?_, by simp [State.prepareWith]; rfl,
    by simp [State.prepareWith], ?_, ?_⟩
  · obtain ⟨coefs, gain, q, nsec, e⟩ := s.prepareWith_band m f b
    rw [e]
    exact ⟨rfl, rfl, rfl, rfl, rfl, rfl, rfl, rfl, Config.standard_levelFloorDb, rfl, rfl, rfl,
      fun k => by cases k <;> exact ⟨rfl, rfl⟩⟩
  · have base : (s.prepareWith m f).base = PerMode.of fun _ => Tracker.zero (rmsWindow s.pg f) := by simp [State.prepareWith]
    rw [base, PerMode.get_of]
    rfl
  · have solo : (s.prepareWith m f).soloState = ⟨SecState.zero, SecState.zero⟩ := by simp [State.prepareWith]
    rw [solo]
    cases k <;> rfl
  · simp [State.prepareWith]
  · unfold State.prepareWith
    dsimp only
    obtain ⟨same, e⟩ | ⟨changed, e⟩ := State.updateLatency_cases (C := .standard)
      { (s.prepareClear m f).recompute with bands := mapV Band.runBase (s.prepareClear m f).recompute.bands } <;> rw [e]
    · exact .inl ⟨rfl, rfl, rfl⟩
    · exact .inr ⟨changed, rfl, rfl⟩

end Sys2Proof.Machine
end

section
/-! PROOFS. binary32 (30_encoding.md R95, R99): the value of a word from its fields, and that encoding a word's value gives the
word back. -/

namespace Sys2Proof.Machine

/-! ### The value of a word -/

/-- R95: a significand `m` at the biased exponent `e` stands for m * 2^(e - 150). -/
theorem scaleF32_eq (m e : Nat) : scaleF32 m e = (m : Rat) * 2 ^ e / 2 ^ 150 := by
  unfold scaleF32
  split
  next large =>
    have pow : (2 : Rat) ^ e = 2 ^ (e - 150) * 2 ^ 150 := (pow_sub_mul_pow 2 large).symm
    rw [Rat.mkRat_eq_div, pow]
    push_cast
    field_simp
  next small =>
    have pow : (2 : Rat) ^ 150 = 2 ^ (150 - e) * 2 ^ e := (pow_sub_mul_pow 2 (by omega)).symm
    rw [Rat.mkRat_eq_div, pow]
    push_cast
    field_simp

/-- The fields of a word put together from them (R95). -/
theorem f32_fields {s e m : Nat} (hs : s < 2) (he : e < 256) (hm : m < 2 ^ 23) :
    (BitVec.ofNat 32 (s * 2 ^ 31 + e * 2 ^ 23 + m)).toNat = s * 2 ^ 31 + e * 2 ^ 23 + m := by
  rw [BitVec.toNat_ofNat]
  exact Nat.mod_eq_of_lt (by omega)

/-- R95, on a word whose fields are known. -/
theorem f32val_of_fields {w : DataWord} {s e m : Nat} (he : e < 256) (hm : m < 2 ^ 23)
    (h : w.toNat = s * 2 ^ 31 + e * 2 ^ 23 + m) : f32val w =
      if e = 255 then (if m = 0 then .inf (s == 1) else .nan)
      else .fin (if s = 1 then -(if e = 0 then scaleF32 m 1 else scaleF32 (2 ^ 23 + m) e)
        else if e = 0 then scaleF32 m 1 else scaleF32 (2 ^ 23 + m) e) := by
  have sign : w.toNat / 2 ^ 31 = s := by omega
  have exponent : w.toNat / 2 ^ 23 % 2 ^ 8 = e := by omega
  have fraction : w.toNat % 2 ^ 23 = m := by omega
  unfold f32val
  rw [sign, exponent, fraction]

/-- A sign bit as a factor. -/
theorem sign_mul {s : Nat} (hs : s < 2) (v : Rat) : (if s = 1 then -v else v) = (-1) ^ s * v := by
  obtain rfl | rfl : s = 0 ∨ s = 1 := by omega
  · simp
  · simp

/-- Settles O10: the fields are read back from the word, and each case of R95 is a case of the model's function. -/
theorem f32Value : Obligations.F32Value := by
  intro s e m hs he hm w
  have value := f32val_of_fields (w := w) he hm (f32_fields hs he hm)
  refine ⟨fun top nonzero => ?_, fun top zero => ?_, fun bottom => ?_, fun positive below => ?_⟩
  · rw [value, if_pos top, if_neg nonzero]
  · rw [value, if_pos top, if_pos zero]
    rfl
  · rw [value, if_neg (by omega), if_pos bottom, sign_mul hs, scaleF32_eq]
    congr 1
    ring
  · rw [value, if_neg below.ne, if_neg positive.ne', sign_mul hs, scaleF32_eq]
    congr 1
    push_cast
    ring

/-! ### The encoding of a value -/

/-- The significand and exponent of a finite binary32: normal, or subnormal at exponent 1 (R99). -/
structure OnGrid (m e : Nat) : Prop where
  pos : 1 ≤ e
  le : e ≤ 254
  lt : m < 2 ^ 24
  normal : e = 1 ∨ 2 ^ 23 ≤ m

theorem scaleF32_le {m e n f : Nat} (h : m * 2 ^ e ≤ n * 2 ^ f) : scaleF32 m e ≤ scaleF32 n f := by
  rw [scaleF32_eq, scaleF32_eq]
  exact div_le_div_of_nonneg_right (by exact_mod_cast h) (by positivity)

theorem scaleF32_lt {m e n f : Nat} (h : m * 2 ^ e < n * 2 ^ f) : scaleF32 m e < scaleF32 n f := by
  rw [scaleF32_eq, scaleF32_eq]
  exact div_lt_div_of_pos_right (by exact_mod_cast h) (by positivity)

theorem OnGrid.le_max {m e : Nat} (h : OnGrid m e) : scaleF32 m e ≤ maxF32 :=
  scaleF32_le (Nat.mul_le_mul (Nat.le_sub_one_of_lt h.lt) (Nat.pow_le_pow_right (by norm_num) h.le))

/-- R99: the exponent is found from above: the least normal number of a higher exponent exceeds the value, that of its own does
not. -/
theorem OnGrid.f32Exp_eq {m e : Nat} (h : OnGrid m e) : ∀ k, e ≤ k → f32Exp (scaleF32 m e) k = e
  | 0, hk => absurd h.pos (by omega)
  | k + 1, hk => by
    rw [f32Exp, Config.standard_ofRat]
    rcases hk.lt_or_eq with below | rfl
    · have above : scaleF32 m e < scaleF32 (2 ^ 23) (k + 1) := by
        refine scaleF32_lt ?_
        calc m * 2 ^ e < 2 ^ 24 * 2 ^ e := Nat.mul_lt_mul_of_pos_right h.lt (by positivity)
          _ = 2 ^ 23 * 2 ^ (e + 1) := by ring
          _ ≤ 2 ^ 23 * 2 ^ (k + 1) := Nat.mul_le_mul_left _ (Nat.pow_le_pow_right (by norm_num) below)
      rw [if_neg (not_le.2 above)]
      exact h.f32Exp_eq k (by omega)
    · split
      · rfl
      next subnormal =>
        rcases h.normal with one | normal
        · obtain rfl : k = 0 := by omega
          rfl
        · exact absurd (scaleF32_le (Nat.mul_le_mul_right _ normal)) subnormal

theorem roundEven_natCast (n : Nat) : roundEven (n : Rat) = n := by
  have floor : ((n : Rat).floor).toNat = n := congrArg Int.toNat (Int.floor_natCast (R := Rat) n)
  unfold roundEven
  simp only [Config.standard_floor, floor]
  norm_num

/-- R99: a value on the grid is encoded exactly. -/
theorem OnGrid.f32mag_eq {m e : Nat} (h : OnGrid m e) : f32mag (scaleF32 m e) = (e - 1) * 2 ^ 23 + m := by
  have exact : scaleF32 m e / scaleF32 1 e = m := by
    rw [scaleF32_eq, scaleF32_eq]
    field_simp
    simp
  unfold f32mag
  simp only [Config.standard_ofRat, if_neg (not_lt.2 h.le_max), h.f32Exp_eq 254 h.le, exact, roundEven_natCast]

theorem scaleF32_nonneg (m e : Nat) : 0 ≤ scaleF32 m e := by
  rw [scaleF32_eq]
  positivity

theorem scaleF32_pos {m : Nat} (hm : 0 < m) (e : Nat) : 0 < scaleF32 m e := by
  rw [scaleF32_eq]
  positivity

/-- R99: the encoding of a value on the grid, with its sign; a negative value is not 0. -/
theorem OnGrid.f32enc_eq {m e : Nat} (h : OnGrid m e) {s : Nat} (hs : s < 2) (nonzero : s = 1 → 0 < m) :
    f32enc (if s = 1 then -scaleF32 m e else scaleF32 m e) = BitVec.ofNat 32 (s * 2 ^ 31 + ((e - 1) * 2 ^ 23 + m)) := by
  obtain rfl | rfl : s = 0 ∨ s = 1 := by omega
  · rw [if_neg zero_ne_one, f32enc, if_neg (not_lt.2 (scaleF32_nonneg m e)), h.f32mag_eq, Nat.zero_mul, Nat.zero_add]
    rfl
  · rw [if_pos rfl, f32enc, if_pos (neg_lt_zero.2 (scaleF32_pos (nonzero rfl) e)), neg_neg, h.f32mag_eq, Nat.one_mul]
    rfl

/-- Settles O11: a finite word's value is on the grid, so its encoding has the word's fields. -/
theorem f32RoundTrip : Obligations.F32RoundTrip := by
  intro w v finite notNegZero
  obtain ⟨s, hs⟩ : ∃ s, s = w.toNat / 2 ^ 31 := ⟨_, rfl⟩
  obtain ⟨e, he⟩ : ∃ e, e = w.toNat / 2 ^ 23 % 2 ^ 8 := ⟨_, rfl⟩
  obtain ⟨m, hm⟩ : ∃ m, m = w.toNat % 2 ^ 23 := ⟨_, rfl⟩
  have bound := w.isLt
  have sBound : s < 2 := by omega
  have word : w.toNat = s * 2 ^ 31 + e * 2 ^ 23 + m := by omega
  have notZero : w.toNat ≠ 2 ^ 31 := fun h => notNegZero (BitVec.eq_of_toNat_eq h)
  rw [f32val_of_fields (by omega) (by omega) word] at finite
  by_cases top : e = 255
  · rw [if_pos top] at finite
    split at finite <;> cases finite
  rw [if_neg top] at finite
  obtain rfl := F32.fin.inj finite
  refine BitVec.eq_of_toNat_eq ?_
  by_cases bottom : e = 0
  · have grid : OnGrid m 1 := ⟨le_rfl, by norm_num, by omega, .inl rfl⟩
    rw [if_pos bottom, grid.f32enc_eq sBound (by omega), BitVec.toNat_ofNat]
    omega
  · have grid : OnGrid (2 ^ 23 + m) e := ⟨by omega, by omega, by omega, .inr (by omega)⟩
    rw [if_neg bottom, grid.f32enc_eq sBound (by omega), BitVec.toNat_ofNat]
    omega

end Sys2Proof.Machine
end

section
/-! PROOFS. PROCESS (45_controller.md R331, R332, R341, R363): the frames read from the words at the port, when it refuses, and
what two of them in a row do. -/

namespace Sys2Proof.Machine

section

set_option linter.unusedSectionVars false

variable {V : Type} [Zero V] [One V] [NatCast V] [Add V] [Sub V] [Neg V] [Mul V] [Div V]
  [LT V] [LE V] [BEq V] [Min V] [Max V] [DecidableLT V] [DecidableLE V] {C : Config V}

/-! ### Frames from words -/

theorem framesOf_cons (useSide : Bool) (a b c d : DataWord) (ws : List DataWord) :
    framesOf useSide (a :: b :: c :: d :: ws) C =
      (frameOf useSide a b c d).bind fun f => (framesOf useSide ws).map (f :: ·) := by
  rw [framesOf]
  cases frameOf useSide a b c d <;> cases framesOf useSide ws C <;> rfl

theorem framesOf_short (useSide : Bool) {ws : List DataWord} (h : ws.length < 4) : framesOf useSide ws C = some [] := by
  match ws with
  | [] | [_] | [_, _] | [_, _, _] => rfl
  | _ :: _ :: _ :: _ :: _ => simp only [List.length_cons] at h; omega

/-- One frame for every four words (20_memory.md R63). -/
theorem framesOf_length {useSide : Bool} : ∀ {ws : List DataWord} {fr : List (Frame V)},
    framesOf useSide ws C = some fr → fr.length = ws.length / 4
  | [], _, h | [_], _, h | [_, _], _, h | [_, _, _], _, h => by
    obtain rfl := Option.some.inj h
    simp
  | a :: b :: c :: d :: ws, fr, h => by
    rw [framesOf_cons] at h
    obtain ⟨f, -, h⟩ := Option.bind_eq_some_iff.1 h
    obtain ⟨rest, hrest, rfl⟩ := Option.map_eq_some_iff.1 h
    have ih := framesOf_length hrest
    simp only [List.length_cons, ih]
    omega

/-- Whole frames are read one after another. -/
theorem framesOf_append (useSide : Bool) : ∀ (ws vs : List DataWord), ws.length % 4 = 0 →
    framesOf useSide (ws ++ vs) C =
      (framesOf useSide ws).bind fun fr => (framesOf useSide vs).map (fr ++ ·)
  | [], vs, _ => by
    change framesOf useSide vs C = (framesOf useSide vs C).map ([] ++ ·)
    simp
  | [_], _, h | [_, _], _, h | [_, _, _], _, h => by simp at h
  | a :: b :: c :: d :: ws, vs, h => by
    have whole : ws.length % 4 = 0 := by
      simp only [List.length_cons] at h
      omega
    simp only [List.cons_append, framesOf_cons, framesOf_append useSide ws vs whole]
    cases frameOf useSide a b c d C <;> cases framesOf useSide ws C <;> cases framesOf useSide vs C <;> rfl

/-- With no sidechain the side words are not read (R341). -/
theorem framesOf_false_congr : ∀ {ws vs : List DataWord}, ws.length = vs.length →
    (∀ k, ws[4 * k]? = vs[4 * k]? ∧ ws[4 * k + 1]? = vs[4 * k + 1]?) → framesOf false ws C = framesOf false vs C
  | [], _, h, _ | [_], _, h, _ | [_, _], _, h, _ | [_, _, _], _, h, _ => by
    rw [framesOf_short false (by simp), framesOf_short false (by rw [← h]; simp)]
  | a :: b :: c :: d :: ws, vs, h, main => by
    match vs with
    | [] | [_] | [_, _] | [_, _, _] => simp at h
    | a' :: b' :: c' :: d' :: vs =>
      obtain ⟨left, right⟩ := main 0
      obtain rfl : a = a' := Option.some.inj left
      obtain rfl : b = b' := Option.some.inj right
      have rest : framesOf false ws C = framesOf false vs C :=
        framesOf_false_congr (by simpa using h) fun k => by
          obtain ⟨left, right⟩ := main (k + 1)
          exact ⟨left, right⟩
      rw [framesOf_cons, framesOf_cons, rest]
      rfl

/-! ### PROCESS with nothing to commit -/

theorem State.commit_of_no_flag {s : State V} (h : s.anyFlag = false) : s.commit = s := by
  rw [State.commit, h]
  rfl

theorem State.anyFlag_of_clear {s : State V} (pS : s.pendS = false) (pG : s.pendG = false) (pB : s.pendB = false)
    (globals : s.gdirty = false) (bands : ∀ j (hj : j < Config.numBands), s.bands[j].dirty = false) : s.anyFlag = false := by
  simp only [State.anyFlag, Bool.or_eq_false_iff, List.any_eq_false]
  refine ⟨⟨⟨⟨pS, pG⟩, pB⟩, globals⟩, fun b member => ?_⟩
  obtain ⟨j, hj, rfl⟩ := List.getElem_of_mem member
  simpa using bands j (by simpa using hj)

theorem processFrames_anyFlag {s : State V} (h : s.anyFlag = false) (fr : List (Frame V)) :
    (processFrames s fr C).anyFlag = false := by
  obtain ⟨⟨pS, pG, pB, globals⟩, bands⟩ := State.anyFlag_eq_false h
  obtain ⟨-, -, gdirty, pendS, pendG, pendB, -⟩ := (processFrames_signal (C := C) s fr).frame
  exact State.anyFlag_of_clear (pendS.trans pS) (pendG.trans pG) (pendB.trans pB) (gdirty.trans globals)
    fun j hj => (processFrames_dirty s fr hj).trans (bands j hj)

theorem State.inputWords_length (s : State V) (n : Nat) : (s.inputWords n).length = 4 * s.nEff n := by
  rw [State.inputWords, List.length_take, State.nEff]
  omega

theorem State.emit_nil (s : State V) : s.emit [] C = s := by
  have kept : s.io.audioOut ++ outWords [] C = s.io.audioOut := List.append_nil _
  rw [State.emit, kept]

/-! ### Two runs in a row -/

theorem frontRun_append : ∀ (s : State V) (xs ys : List (Frame V)), frontRun s (xs ++ ys) =
    ((frontRun s xs).1 ++ (frontRun (frontRun s xs).2 ys).1, (frontRun (frontRun s xs).2 ys).2)
  | _, [], _ => rfl
  | s, x :: xs, ys => by
    simp only [List.cons_append, frontRun, frontRun_append _ xs ys]

theorem fifoRun_append : ∀ (s : State V) (xs ys : List (Frame V)), fifoRun s (xs ++ ys) C =
    ((fifoRun s xs).1 ++ (fifoRun (fifoRun s xs).2 ys).1, (fifoRun (fifoRun s xs).2 ys).2)
  | _, [], _ => rfl
  | s, x :: xs, ys => by
    simp only [List.cons_append, fifoRun, fifoRun_append _ xs ys]

theorem chunkRun_append : ∀ (s : State V) (cs ds : List (List (Frame V))), chunkRun s (cs ++ ds) C =
    ((chunkRun s cs).1 ++ (chunkRun (chunkRun s cs).2 ds).1, (chunkRun (chunkRun s cs).2 ds).2)
  | _, [], _ => rfl
  | s, c :: cs, ds => by
    simp only [List.cons_append, chunkRun, chunkRun_append _ cs ds, List.append_assoc]

/-- Fuel above the number of frames does not count. -/
theorem chunks_fuel {n : Nat} (hn : 0 < n) : ∀ {fuel fuel' : Nat} {fr : List (Frame V)}, fr.length ≤ fuel → fr.length ≤ fuel' →
    chunks n fuel fr = chunks n fuel' fr
  | 0, 0, [], _, _ | 0, _ + 1, [], _, _ | _ + 1, 0, [], _, _ | _ + 1, _ + 1, [], _, _ => rfl
  | 0, _, _ :: _, h, _ | _ + 1, 0, _ :: _, _, h => absurd h (Nat.not_succ_le_zero _)
  | fuel + 1, fuel' + 1, f :: fr, h, h' => by
    have shorter : ((f :: fr).drop n).length ≤ fr.length := by
      rw [List.length_drop, List.length_cons]
      omega
    exact congrArg ((f :: fr).take n :: ·)
      (chunks_fuel hn (shorter.trans (Nat.le_of_succ_le_succ h)) (shorter.trans (Nat.le_of_succ_le_succ h')))

/-- R346: a whole number of chunks is cut off first. -/
theorem chunks_append {n : Nat} (hn : 0 < n) : ∀ (q : Nat) (xs ys : List (Frame V)), xs.length = q * n →
    chunks n (xs ++ ys).length (xs ++ ys) = chunks n xs.length xs ++ chunks n ys.length ys
  | 0, xs, ys, h => by
    rw [List.eq_nil_of_length_eq_zero (h.trans (Nat.zero_mul n))]
    rfl
  | q + 1, xs, ys, h => by
    have long : n ≤ xs.length := by
      rw [h, Nat.succ_mul]
      exact Nat.le_add_left ..
    have cut (zs : List (Frame V)) (hz : n ≤ zs.length) :
        chunks n zs.length zs = zs.take n :: chunks n (zs.drop n).length (zs.drop n) := by
      match zs with
      | [] => exact absurd hz (Nat.not_le.2 hn)
      | z :: zs =>
        have shorter : ((z :: zs).drop n).length ≤ zs.length := by
          rw [List.length_drop, List.length_cons]
          omega
        exact congrArg ((z :: zs).take n :: ·) (chunks_fuel hn shorter le_rfl)
    have fewer : (xs.drop n).length = q * n := by
      rw [List.length_drop, h, Nat.succ_mul, Nat.add_sub_cancel]
    rw [cut _ (by rw [List.length_append]; omega), cut _ long, List.take_append_of_le_length long,
      List.drop_append_of_le_length long, chunks_append hn q _ _ fewer]
    rfl

/-- R346, R363: the splitter over two runs of frames, the first of a whole number of chunks where the splitter is that of zero
latency. -/
theorem splitRun_append (s : State V) (xs ys : List (Frame V))
    (whole : s.cg.zeroLat = true → ys = [] ∨ xs.length % s.sublen = 0) : splitRun s (xs ++ ys) C =
      ((splitRun s xs).1 ++ (splitRun (splitRun s xs).2 ys).1, (splitRun (splitRun s xs).2 ys).2) := by
  obtain ⟨-, cg, -, -, -, -, -, -, -, sublen, -⟩ := (splitRun_signal (C := C) s xs).frame
  have second : splitRun (splitRun s xs).2 ys =
      if s.cg.zeroLat then chunkRun (splitRun s xs).2 (chunks s.sublen ys.length ys) else fifoRun (splitRun s xs).2 ys := by
    rw [← cg, ← sublen]
    rfl
  rw [second]
  unfold splitRun
  cases zeroLat : s.cg.zeroLat with
  | false => exact fifoRun_append s xs ys
  | true =>
    have cut : chunks s.sublen (xs ++ ys).length (xs ++ ys) =
        chunks s.sublen xs.length xs ++ chunks s.sublen ys.length ys := by
      rcases whole zeroLat with rfl | whole
      · rw [List.append_nil]
        exact (List.append_nil _).symm
      · rcases s.sublen.eq_zero_or_pos with empty | hn
        · rw [empty, Nat.mod_zero] at whole
          rw [List.eq_nil_of_length_eq_zero whole]
          rfl
        · exact chunks_append hn _ xs ys (Nat.div_mul_cancel (Nat.dvd_of_mod_eq_zero whole)).symm
    rw [if_pos rfl, if_pos rfl, if_pos rfl, cut]
    exact chunkRun_append ..

/-- R363: the front end works ahead of the splitter, of which it reads nothing and which reads nothing of it. -/
theorem processRun_append (s : State V) (xs ys : List (Frame V))
    (whole : s.cg.zeroLat = true → ys = [] ∨ xs.length % s.sublen = 0) : processRun C s (xs ++ ys) =
      ((processRun C s xs).1 ++ (processRun C (processRun C s xs).2 ys).1, (processRun C (processRun C s xs).2 ys).2) := by
  obtain ⟨-, frontCg, -, -, -, -, -, -, -, frontSublen, -⟩ := (frontRun_signal xs s).frame
  obtain ⟨x, hx⟩ : ∃ x, x = frontRun s xs := ⟨_, rfl⟩
  rw [← hx] at frontCg frontSublen
  obtain ⟨-, splitCg, -⟩ := (splitRun_signal (C := C) x.2 x.1).frame
  obtain ⟨frames, idle⟩ := frontRun_congr (splitRun_idle (C := C) x.2 x.1) (congrArg GlobalRegs.measure splitCg) ys
  have ahead := frontRun_snd x.2 ys
  have behind := frontRun_snd (splitRun x.2 x.1 C).2 ys
  rw [idle] at behind
  have count : (x.1 : List (Frame V)).length = xs.length := hx ▸ frontRun_length_eq s xs
  have none : ys = [] → (frontRun x.2 ys).1 = [] := fun h => by rw [h]; rfl
  unfold processRun
  rw [frontRun_append, ← hx, frames, behind, ahead]
  dsimp only
  rw [splitRun_append, splitRun_withIdle]
  · rfl
  · intro zeroLat
    change x.2.cg.zeroLat = true at zeroLat
    change _ ∨ x.1.length % x.2.sublen = 0
    rw [count, frontSublen]
    exact (whole (frontCg ▸ zeroLat)).imp_left none

end

/-! ### Settled -/

theorem exec_process (n : Nat) (s : State) : exec (.process n) s = execProcess n s := rfl

section

variable {s : State} {n : Nat} (hp : s.prepared = true)
include hp

/-- PROCESS in a prepared block whose words it can read (R331). -/
theorem execProcess_of_frames {fr : List Frame} (h : framesOf s.commit.cg.scPresent (s.inputWords n) = some fr) :
    execProcess n s = .next (processFrames (s.consume n).commit fr) := by
  rw [execProcess, if_pos hp, h]

end

/-- The state after a PROCESS takes its frames from the port is the state with other words there. -/
theorem State.consume_eq_withAudio (s : State) (n : Nat) :
    s.consume n = s.withAudio (s.io.audioIn.drop (4 * s.nEff n)) s.io.audioOut := rfl

theorem State.withAudio_cg (s : State) (i o : List DataWord) : (s.withAudio i o).cg = s.cg := rfl

/-- Settles O33: there is no flag to commit and no word to read. -/
theorem nothingPending : Obligations.NothingPending := by
  intro s n hp idle few
  have noFrame : s.nEff n = 0 := by
    rw [State.nEff]
    omega
  have noWord : framesOf s.commit.cg.scPresent (s.inputWords n) = some [] :=
    framesOf_short _ (by rw [State.inputWords_length, noFrame]; decide)
  have same : s.consume n = s := by rw [State.consume, noFrame]; rfl
  rw [exec_process, execProcess_of_frames hp noWord, same, s.commit_of_no_flag idle, processFrames_nil, State.emit_nil]

/-- Settles O34: the words of the two are those of the one, and so are their frames, over which the run is cut in two. -/
theorem blockSize : Obligations.BlockSize := by
  intro s t u n m hp idle whole first second
  have unflagged (i : Nat) : (s.consume i).anyFlag = false := idle
  obtain ⟨fr, frames, et⟩ := execProcess_prepared hp first
  rw [s.commit_of_no_flag idle] at frames
  rw [(s.consume n).commit_of_no_flag (unflagged n)] at et
  have clear : t.anyFlag = false := et ▸ processFrames_anyFlag (unflagged n) fr
  obtain ⟨-, cg, -, -, -, -, prepared, -⟩ := (processFrames_signal (C := .standard) (s.consume n) fr).frame
  rw [← et, State.consume_cg] at cg
  rw [← et] at prepared
  rw [s.consume_eq_withAudio, processFrames_withAudio] at et
  have audioIn : t.io.audioIn = s.io.audioIn.drop (4 * s.nEff n) := et ▸ rfl
  obtain ⟨fr', frames', eu⟩ := execProcess_prepared (prepared.trans hp) second
  rw [t.commit_of_no_flag clear, cg] at frames'
  have clear' : (t.consume m).anyFlag = false := clear
  have taken : t.consume m = (processRun .standard s fr).2.withAudio (t.io.audioIn.drop (4 * t.nEff m))
      (s.io.audioOut ++ outWords (processRun .standard s fr).1) := by
    rw [t.consume_eq_withAudio, et]
    rfl
  rw [(t.consume m).commit_of_no_flag clear', taken, processFrames_withAudio] at eu
  have nEff : s.nEff (n + m) = s.nEff n + t.nEff m := by
    rw [State.nEff, State.nEff, State.nEff, audioIn, List.length_drop, State.nEff]
    omega
  have words : s.inputWords (n + m) = s.inputWords n ++ t.inputWords m := by
    rw [State.inputWords, State.inputWords, State.inputWords, audioIn, nEff, Nat.mul_add, List.take_add]
  have both : framesOf s.commit.cg.scPresent (s.inputWords (n + m)) = some (fr ++ fr') := by
    rw [s.commit_of_no_flag idle, words, framesOf_append, frames, frames']
    · rfl
    · rw [State.inputWords_length]
      omega
  have cut : s.cg.zeroLat = true → fr' = [] ∨ fr.length % s.sublen = 0 := by
    intro zeroLat
    have count : fr.length = s.nEff n := by
      rw [framesOf_length frames, State.inputWords_length]
      omega
    have count' : fr'.length = t.nEff m := by
      rw [framesOf_length frames', State.inputWords_length]
      omega
    rcases le_total n (s.io.audioIn.length / 4) with enough | few
    · rw [count, State.nEff, Nat.min_eq_left enough]
      exact .inr (whole zeroLat)
    · refine .inl (List.eq_nil_of_length_eq_zero ?_)
      rw [count', State.nEff, audioIn, List.length_drop, State.nEff]
      omega
  rw [exec_process, execProcess_of_frames hp both, (s.consume (n + m)).commit_of_no_flag (unflagged (n + m)),
    s.consume_eq_withAudio, processFrames_withAudio, processRun_append s fr fr' cut, eu, audioIn, List.drop_drop, nEff,
    Nat.mul_add]
  simp only [outWords, List.flatMap_append, List.append_assoc]

/-- Settles O35: neither the commit nor the frames read the words left on the stream. -/
theorem sideIgnored : Obligations.SideIgnored := by
  intro s t n ws hp noSide length main h
  obtain ⟨fr, frames, rfl⟩ := execProcess_prepared hp h
  have other : ({ s with io := { s.io with audioIn := ws } } : State) = s.withAudio ws s.io.audioOut := rfl
  have nEff : (s.withAudio ws s.io.audioOut).nEff n = s.nEff n := congrArg (fun l => min n (l / 4)) length
  have words : framesOf false ((s.withAudio ws s.io.audioOut).inputWords n) = framesOf false (s.inputWords n) := by
    refine framesOf_false_congr ?_ fun k => ?_
    · rw [State.inputWords_length, State.inputWords_length, nEff]
    · rw [State.inputWords, State.inputWords, nEff]
      obtain ⟨left, right⟩ := main k
      change (ws.take _)[4 * k]? = _ ∧ (ws.take _)[4 * k + 1]? = _
      simp only [List.getElem?_take, left, right, and_self]
  have frames' : framesOf (s.withAudio ws s.io.audioOut).commit.cg.scPresent ((s.withAudio ws s.io.audioOut).inputWords n) =
      some fr := by
    rw [commit_withAudio, State.withAudio_cg, noSide, words, ← noSide]
    exact frames
  have prepared : (s.withAudio ws s.io.audioOut).prepared = true := hp
  have taken : (s.withAudio ws s.io.audioOut).consume n =
      s.withAudio (ws.drop (4 * min n (ws.length / 4))) s.io.audioOut := rfl
  rw [other, exec_process, execProcess_of_frames prepared frames', taken, s.consume_eq_withAudio, commit_withAudio,
    commit_withAudio, processFrames_withAudio, processFrames_withAudio]
  generalize processRun .standard s.commit fr = run
  rfl

/-! ### When PROCESS refuses -/

theorem sampleVal_eq_some {w : DataWord} {v : Rat} : sampleVal w = some v ↔ f32val w = .fin v := by
  unfold sampleVal
  cases h : f32val w with
  | fin u => simp
  | _ => simp

/-- R99: a frame is read where its main samples are finite, and its side samples too where a sidechain is connected. -/
theorem frameOf_eq_none {useSide : Bool} {a b c d : DataWord} (h : frameOf useSide a b c d = none) :
    ∃ w ∈ [a, b, c, d], ∀ v, f32val w ≠ .fin v := by
  have none {w : DataWord} (h : sampleVal w = none) (v : Rat) : f32val w ≠ .fin v := fun finite => by
    rw [sampleVal_eq_some.2 finite] at h
    cases h
  unfold frameOf at h
  cases ha : sampleVal a with
  | none => exact ⟨a, by simp, none ha⟩
  | some l =>
    cases hb : sampleVal b with
    | none => exact ⟨b, by simp, none hb⟩
    | some r =>
      cases hc : sampleVal c with
      | none => exact ⟨c, by simp, none hc⟩
      | some sl =>
        cases hd : sampleVal d with
        | none => exact ⟨d, by simp, none hd⟩
        | some sr => cases useSide <;> simp [ha, hb, hc, hd] at h

theorem frameOf_main {useSide : Bool} {a b c d : DataWord} {f : Frame} (h : frameOf useSide a b c d = some f) :
    f32val a = .fin f.mL ∧ f32val b = .fin f.mR := by
  unfold frameOf at h
  split at h
  next l r hl hr =>
    have main : f.mL = l ∧ f.mR = r := by
      split at h
      · split at h
        · obtain rfl := Option.some.inj h
          exact ⟨rfl, rfl⟩
        · cases h
      · obtain rfl := Option.some.inj h
        exact ⟨rfl, rfl⟩
    rw [main.1, main.2]
    exact ⟨sampleVal_eq_some.1 hl, sampleVal_eq_some.1 hr⟩
  · cases h

theorem framesOf_eq_none {useSide : Bool} : ∀ {ws : List DataWord}, framesOf useSide ws = none →
    ∃ w ∈ ws, ∀ v, f32val w ≠ .fin v
  | [], h | [_], h | [_, _], h | [_, _, _], h => by cases h
  | a :: b :: c :: d :: ws, h => by
    rw [framesOf_cons] at h
    cases hf : frameOf useSide a b c d with
    | none =>
      obtain ⟨w, member, infinite⟩ := frameOf_eq_none hf
      exact ⟨w, List.mem_append_left ws member, infinite⟩
    | some f =>
      rw [hf] at h
      obtain ⟨w, member, infinite⟩ := framesOf_eq_none (Option.map_eq_none_iff.1 h)
      exact ⟨w, List.mem_append_right [a, b, c, d] member, infinite⟩

/-- The main words of the frames that are read are finite. -/
theorem framesOf_main {useSide : Bool} : ∀ {ws : List DataWord} {fr : List Frame}, framesOf useSide ws = some fr →
    ∀ {k : Nat} {w : DataWord}, 4 * k + 3 < ws.length → (ws[4 * k]? = some w ∨ ws[4 * k + 1]? = some w) →
      ∃ v, f32val w = .fin v
  | [], _, _, _, _, short, _ | [_], _, _, _, _, short, _ | [_, _], _, _, _, _, short, _
  | [_, _, _], _, _, _, _, short, _ => by simp at short
  | a :: b :: c :: d :: ws, fr, h, k, w, short, at_ => by
    rw [framesOf_cons] at h
    obtain ⟨f, hf, h⟩ := Option.bind_eq_some_iff.1 h
    obtain ⟨rest, hrest, -⟩ := Option.map_eq_some_iff.1 h
    match k with
    | 0 =>
      obtain ⟨left, right⟩ := frameOf_main hf
      rcases at_ with at_ | at_
      · obtain rfl : a = w := Option.some.inj at_
        exact ⟨_, left⟩
      · obtain rfl : b = w := Option.some.inj at_
        exact ⟨_, right⟩
    | k + 1 =>
      refine framesOf_main hrest (k := k) ?_ at_
      simp only [List.length_cons] at short
      omega

/-- A command but PROCESS completes. -/
theorem exec_completes {i : Instr} (h : ∀ n, i ≠ .process n) (s : State) : ∃ t, exec i s = .next t := by
  cases i
  case process n => exact absurd rfl (h n)
  all_goals exact ⟨_, rfl⟩

/-- What PROCESS does with the words it reads: it completes or, where they hold a sample that is not finite, refuses. -/
theorem execProcess_cases (n : Nat) (s : State) : ∃ useSide, (∃ fr t, framesOf useSide (s.inputWords n) = some fr ∧
      execProcess n s = .next t) ∨
    framesOf useSide (s.inputWords n) = none ∧ execProcess n s = .refused .nonFiniteSample := by
  unfold execProcess
  split
  · refine ⟨s.commit.cg.scPresent, ?_⟩
    cases h : framesOf s.commit.cg.scPresent (s.inputWords n) with
    | some fr => exact .inl ⟨fr, _, rfl, rfl⟩
    | none => exact .inr ⟨rfl, rfl⟩
  · refine ⟨false, ?_⟩
    cases h : framesOf false (s.inputWords n) with
    | some fr => exact .inl ⟨fr, _, rfl, rfl⟩
    | none => exact .inr ⟨rfl, rfl⟩

/-- PROCESS completes where the waiting samples are finite. -/
theorem execProcess_completes {s : State} (finite : s.SamplesFinite) (n : Nat) : ∃ t, execProcess n s = .next t := by
  obtain ⟨useSide, ⟨_, t, -, completes⟩ | ⟨none, -⟩⟩ := execProcess_cases n s
  · exact ⟨t, completes⟩
  · obtain ⟨w, member, infinite⟩ := framesOf_eq_none none
    obtain ⟨v, hv⟩ := finite w (List.mem_of_mem_take member)
    exact absurd hv (infinite v)

/-- Settles O7: a step idles, answers a reserved word, or executes a command, which completes. -/
theorem nothingRaises : Obligations.NothingRaises := by
  intro s finite
  unfold step
  cases s.io.cmds with
  | nil => exact ⟨s, rfl⟩
  | cons c rest =>
    dsimp only
    cases decode c.word with
    | reserved r => exact ⟨_, rfl⟩
    | instr i =>
      have finite' : (s.takeCmd c rest).SamplesFinite := finite
      by_cases process : ∃ n, i = .process n
      · obtain ⟨n, rfl⟩ := process
        exact execProcess_completes finite' n
      · exact exec_completes (fun n h => process ⟨n, h⟩) _

/-- Settles O8: PROCESS refuses exactly where its words give no frames. -/
theorem processRefuses : Obligations.ProcessRefuses := by
  refine ⟨fun i s r refused => ?_, fun s n k w within at_ infinite => ?_⟩
  · by_cases process : ∃ n, i = .process n
    · obtain ⟨n, rfl⟩ := process
      rw [exec_process] at refused
      obtain ⟨useSide, ⟨_, t, -, completes⟩ | ⟨none, refuses⟩⟩ := execProcess_cases n s
      · rw [completes] at refused
        cases refused
      · rw [refuses] at refused
        exact ⟨(Host.Outcome.refused.inj refused).symm, n, rfl, framesOf_eq_none none⟩
    · obtain ⟨t, completes⟩ := exec_completes (fun n h => process ⟨n, h⟩) s
      rw [completes] at refused
      cases refused
  · rw [exec_process]
    obtain ⟨useSide, ⟨fr, t, frames, -⟩ | ⟨-, refuses⟩⟩ := execProcess_cases n s
    · have inside : 4 * k + 3 < (s.inputWords n).length := by
        rw [State.inputWords_length, State.nEff]
        omega
      have same (j : Nat) (hj : j < 2) : (s.inputWords n)[4 * k + j]? = s.io.audioIn[4 * k + j]? := by
        rw [State.inputWords, List.getElem?_take, if_pos]
        rw [State.nEff]
        omega
      have left := same 0 (by norm_num)
      have right := same 1 (by norm_num)
      obtain ⟨v, hv⟩ := framesOf_main frames inside (at_.imp left.trans right.trans)
      exact absurd hv (infinite v)
    · exact refuses

/-! ### What PROCESS moves -/

/-- Settles O28: the commit leaves the ports alone, and the frames put out one pair each. -/
theorem processCompletes : Obligations.ProcessCompletes := by
  intro s n hp hs finite
  obtain ⟨t, completes⟩ := execProcess_completes finite n
  obtain ⟨fr, frames, rfl⟩ := execProcess_prepared hp completes
  refine ⟨_, completes, ?_⟩
  have count : fr.length = min n (s.io.audioIn.length / 4) := by
    rw [framesOf_length frames, State.inputWords_length, State.nEff]
    omega
  obtain ⟨pg, prepared, fs, maxblock, sublen, cmds, audioIn, audioOut, respCtrl, respAudio, -, cur⟩ :=
    (s.consume n).commit_frame (C := .standard)
  have signal := processFrames_signal (C := .standard) (s.consume n).commit fr
  obtain ⟨pg', -, -, -, -, -, prepared', fs', maxblock', sublen', -⟩ := signal.frame
  obtain ⟨cmds', audioIn', respCtrl', respAudio', -, cur'⟩ := signal.ports
  obtain ⟨-, out⟩ := processFrames_audio (C := .standard) (s.consume n).commit fr
  have positive : 0 < (s.consume n).commit.sublen := by
    rw [sublen]
    exact hs
  refine ⟨audioIn'.trans audioIn, ⟨_, out.trans (by rw [audioOut]; rfl), ?_⟩, pg'.trans pg, (prepared'.trans prepared).trans hp,
    fs'.trans fs, maxblock'.trans maxblock, sublen'.trans sublen, cmds'.trans cmds, respCtrl'.trans respCtrl,
    respAudio'.trans respAudio, cur'.trans cur⟩
  rw [outWords_length, processRun_length positive, count]

/-- What comes out of the frames read from words put together is their main words (R99, log entry 10). -/
theorem framesOf_roundTrip : ∀ fr : List (DataWord × DataWord × DataWord × DataWord),
    (∀ f ∈ fr, (∃ v, f32val f.1 = .fin v) ∧ (∃ v, f32val f.2.1 = .fin v) ∧ f.1 ≠ 0x80000000 ∧ f.2.1 ≠ 0x80000000) →
    ∃ out : List Frame, framesOf false (fr.flatMap fun f => [f.1, f.2.1, f.2.2.1, f.2.2.2]) = some out ∧
      outWords (out.map fun f => (f.mL, f.mR)) = fr.flatMap fun f => [f.1, f.2.1]
  | [], _ => ⟨[], rfl, rfl⟩
  | (a, b, c, d) :: fr, h => by
    obtain ⟨⟨l, hl⟩, ⟨r, hr⟩, notNegL, notNegR⟩ := h _ List.mem_cons_self
    obtain ⟨out, frames, words⟩ := framesOf_roundTrip fr fun f member => h f (List.mem_cons_of_mem _ member)
    have head : frameOf false a b c d = some ⟨l, r, l, r⟩ := by
      rw [frameOf, sampleVal_eq_some.2 hl, sampleVal_eq_some.2 hr]
      rfl
    refine ⟨⟨l, r, l, r⟩ :: out, ?_, ?_⟩
    · simp only [List.flatMap_cons, List.cons_append, List.nil_append]
      rw [framesOf_cons, head, frames]
      rfl
    · have left := f32RoundTrip a l hl notNegL
      have right := f32RoundTrip b r hr notNegR
      simp only [outWords, List.map_cons, List.flatMap_cons, left, right]
      exact congrArg ([a, b] ++ ·) words

/-- Settles O27: the words taken are those of the frames given, and a finite word but that of -0 comes out as it went in. -/
theorem processUnprepared : Obligations.ProcessUnprepared := by
  intro s n fr rest unprepared audioIn count finite
  obtain ⟨out, frames, words⟩ := framesOf_roundTrip fr finite
  have length : (fr.flatMap fun f => [f.1, f.2.1, f.2.2.1, f.2.2.2]).length = 4 * fr.length := by
    simp [List.length_flatMap, Nat.mul_comm]
  have nEff : s.nEff n = fr.length := by
    rw [State.nEff, audioIn, List.length_append, length]
    omega
  have taken : s.inputWords n = fr.flatMap fun f => [f.1, f.2.1, f.2.2.1, f.2.2.2] := by
    rw [State.inputWords, nEff, audioIn, ← length, List.take_left]
  have left : s.io.audioIn.drop (4 * s.nEff n) = rest := by
    rw [nEff, audioIn, ← length, List.drop_left]
  have passed : (s.withAudio rest s.io.audioOut).emit (out.map fun f => (f.mL, f.mR)) =
      s.withAudio rest (s.io.audioOut ++ fr.flatMap fun f => [f.1, f.2.1]) := by
    rw [State.emit, words]
    rfl
  rw [exec_process, execProcess, if_neg (Bool.eq_false_iff.1 unprepared), taken, frames, s.consume_eq_withAudio, left]
  exact congrArg Host.Outcome.next passed

end Sys2Proof.Machine
end

section
/-! PROOFS. What a PROCESS does to the staged registers and at stop learning (10_state.md R24, 43_detector_histogram.md R277). -/

namespace Sys2Proof.Machine

section

set_option linter.unusedSectionVars false

variable {V : Type} [Zero V] [One V] [NatCast V] [Add V] [Sub V] [Neg V] [Mul V] [Div V]
  [LT V] [LE V] [BEq V] [Min V] [Max V] [DecidableLT V] [DecidableLE V] {C : Config V}

/-! ### Registers, histogram and percentiles of a band -/

/-- The histogram and its percentile registers are the same (43_detector_histogram.md R277). -/
def Band.SameHist (b c : Band V) : Prop :=
  c.hist = b.hist ∧ c.disp.histP05 = b.disp.histP05 ∧ c.disp.histP50 = b.disp.histP50 ∧ c.disp.histP95 = b.disp.histP95

theorem Band.SameHist.refl (b : Band V) : b.SameHist b := ⟨rfl, rfl, rfl, rfl⟩

theorem Band.SameHist.trans {b c d : Band V} (h : b.SameHist c) (k : c.SameHist d) : b.SameHist d := by
  obtain ⟨hist, p05, p50, p95⟩ := h
  obtain ⟨hist', p05', p50', p95'⟩ := k
  exact ⟨hist'.trans hist, p05'.trans p05, p50'.trans p50, p95'.trans p95⟩

theorem Band.SameRegs.trans {b c d : Band V} (h : b.SameRegs c) (k : c.SameRegs d) : b.SameRegs d := by
  obtain ⟨staged, comm⟩ := h
  obtain ⟨staged', comm'⟩ := k
  exact ⟨staged'.trans staged, comm'.trans comm⟩

theorem Band.settled_sameHist (b : Band V) (f : PerSlot (List (SecState V))) (d : Detector V) (t l : V) :
    b.SameHist (b.settled f d t l) := ⟨rfl, rfl, rfl, rfl⟩

theorem Band.settled_comm (b : Band V) (f : PerSlot (List (SecState V))) (d : Detector V) (t l : V) :
    (b.settled f d t l).comm = b.comm.takeN b.staged := rfl

/-- The structural step of a band touches no histogram and no staged register. -/
theorem State.commitStructural_hist (s : State V) {j : Nat} (hj : j < Config.numBands) :
    s.bands[j].SameHist s.commitStructural.bands[j] := by
  rcases s.commitStructural_cases (C := C) with ⟨-, e⟩ | ⟨-, -, e⟩ | ⟨-, -, -, e⟩ | ⟨-, -, -, e⟩ <;> rw [e]
  · rw [State.commitS_bands, mapV_get]
    exact ⟨rfl, rfl, rfl, rfl⟩
  · rw [State.commitG_bands, mapV_get]
    obtain ⟨b1, rfl, e | e⟩ := s.bands[j].commitG_cases (C := C) s.w <;> rw [e] <;> exact ⟨rfl, rfl, rfl, rfl⟩
  · rw [State.commitB_bands, mapV_get]
    obtain ⟨b1, rfl, e | e⟩ := s.bands[j].commitB_cases <;> rw [e] <;> exact ⟨rfl, rfl, rfl, rfl⟩
  · exact .refl _

/-- What comes after the class-N steps of the bands writes no register, no histogram and no percentile (R338, R339). -/
theorem State.commit_afterBands (s : State V) {j : Nat} (hj : j < Config.numBands) :
    s.commitStructural.commitBands.bands[j].SameRegs s.commit.bands[j] ∧
    s.commitStructural.commitBands.bands[j].SameHist s.commit.bands[j] := by
  rcases s.commit_cases (C := C) with ⟨idle, e⟩ | ⟨-, -, e⟩ | ⟨-, -, e⟩ <;> rw [e]
  · rw [State.commitBands_of_no_flag idle]
    exact ⟨⟨rfl, rfl⟩, .refl _⟩
  all_goals rw [State.updateLatency_bands, State.recompute_bands]
  · obtain ⟨rms, resized⟩ := s.commitStructural.commitBands.commitGlobal_band (C := C) hj
    obtain ⟨_, _, _, _, designed⟩ := recomputeBands_redesigned (C := C)
      (effStruct s.commitStructural.commitBands.commitGlobal.cg) s.commitStructural.commitBands.commitGlobal.fs
      s.commitStructural.commitBands.commitGlobal.bands hj
    rw [designed, resized]
    exact ⟨⟨rfl, rfl⟩, ⟨rfl, rfl, rfl, rfl⟩⟩
  · obtain ⟨_, _, _, _, designed⟩ := recomputeBands_redesigned (C := C) (effStruct s.commitStructural.commitBands.cg)
      s.commitStructural.commitBands.fs s.commitStructural.commitBands.bands hj
    rw [designed]
    exact ⟨⟨rfl, rfl⟩, ⟨rfl, rfl, rfl, rfl⟩⟩

/-- With LEARN clear the frames of a PROCESS leave the histogram and its percentiles (R275). -/
theorem processFrames_sameHist {s : State V} {j : Nat} (hj : j < Config.numBands) (h : s.bands[j].comm.learn = false)
    (fr : List (Frame V)) : s.bands[j].SameHist (processFrames s fr).bands[j] := by
  have keeps : Band.PathKeeps C s.w fun c => c.comm.learn = false ∧ s.bands[j].SameHist c := by
    constructor
    case tick => exact fun _ _ _ h => h
    case update =>
      rintro cg fs n push ok sums c - ⟨idle, same⟩
      obtain ⟨_, _, _, _, _, ⟨hist, p05, p50, p95⟩ | ⟨learning, -⟩, e⟩ := c.update_cases (C := C) cg fs s.w n push ok sums
      · rw [e]
        exact ⟨idle, same.trans ⟨hist, p05, p50, p95⟩⟩
      · rw [idle] at learning
        cases learning
    case sections =>
      rintro fs t c ⟨idle, same⟩
      unfold Band.sectionsAt
      split <;> exact ⟨idle, same⟩
    case filter => exact fun _ _ _ _ h => h
  exact (processFrames_keepsBand keeps fr hj ⟨h, .refl _⟩).2

/-! ### Staged registers -/

theorem Band.stopLearning_staged (b : Band V) : b.staged.SameBut true b.stopLearning.staged := by
  obtain e | ⟨thresh, knee, e⟩ := b.stopLearning_cases (C := C) <;> rw [e]
  · exact .of_eq rfl
  · exact ⟨thresh, knee, rfl, nofun⟩

/-- R277: the class-N step of a band writes no staged register but THRESH and KNEE, and these where it stops learning. -/
theorem Band.commitN_staged (w : Nat) (b : Band V) :
    b.staged.SameBut (b.comm.learn && !b.staged.learn) (b.commitN w).staged := by
  obtain ⟨f, d, t, l, -, -, ⟨-, -, e⟩ | ⟨staged, comm, e⟩ | ⟨-, e⟩⟩ := b.commitN_cases (C := C) w
  · rw [e]
    exact .of_eq rfl
  · rw [e, staged, comm]
    exact (b.settled f d t l).stopLearning_staged
  · rw [e]
    exact .of_eq rfl

/-- R24, R277: so does a commit. -/
theorem State.commit_staged (s : State V) {j : Nat} (hj : j < Config.numBands) :
    s.bands[j].staged.SameBut s.bands[j].stopsLearning s.commit.bands[j].staged := by
  obtain ⟨⟨after, -⟩, -⟩ := s.commit_afterBands (C := C) hj
  obtain ⟨staged, comm⟩ := s.commitStructural_band (C := C) hj
  obtain ⟨-, -, dirty⟩ := s.commitStructural_frame (C := C)
  rw [after, State.commitBands_bands, mapV_get, dirty j hj]
  split
  next set =>
    have same := s.commitStructural.bands[j].commitN_staged (C := C) s.commitStructural.w
    rw [staged, comm] at same
    rw [Band.stopsLearning, set]
    exact same
  next => exact .of_eq staged

end

/-- Settles O31: before PREPARE nothing is committed; after it the commit's class-N steps alone write staged registers. -/
theorem stagedKept : Obligations.StagedKept := by
  intro s t n h
  cases hp : s.prepared with
  | false =>
    obtain ⟨fr, -, rfl⟩ := execProcess_unprepared hp h
    exact ⟨rfl, fun b => ⟨rfl, fun _ => rfl⟩⟩
  | true =>
    obtain ⟨fr, -, rfl⟩ := execProcess_prepared hp h
    obtain ⟨pg, -⟩ := (s.consume n).commit_frame (C := .standard)
    obtain ⟨pg', -⟩ := (processFrames_signal (C := .standard) (s.consume n).commit fr).frame
    refine ⟨pg'.trans pg, fun b => ?_⟩
    obtain ⟨staged, -⟩ := processFrames_sameRegs (C := .standard) (s.consume n).commit fr b.isLt
    obtain ⟨thresh, knee, e, kept⟩ := (s.consume n).commit_staged (C := .standard) b.isLt
    rw [Fin.getElem_fin, staged, e]
    refine ⟨rfl, fun goesOn => ?_⟩
    obtain ⟨sameThresh, sameKnee⟩ := kept goesOn
    rw [sameThresh, sameKnee]
    rfl

/-! ### Stop learning -/

/-- R277: THRESH and KNEE from a histogram that is not empty. -/
theorem Band.stopLearning_of_pos {b : Band} (h : 0 < b.hist.total) : b.stopLearning = { b with
    comm := { b.comm with
      thresh := Arith.clamp (3 - b.hist.pct (1 / 2)) (-80) 0
      knee := Arith.clamp (b.hist.pct (19 / 20) - b.hist.pct (1 / 20)) (1 / 100) 60 }
    staged := { b.staged with
      thresh := Arith.clamp (3 - b.hist.pct (1 / 2)) (-80) 0
      knee := Arith.clamp (b.hist.pct (19 / 20) - b.hist.pct (1 / 20)) (1 / 100) 60 } } := by
  have half : (50 / 100 : Rat) = 1 / 2 := by norm_num
  have high : (95 / 100 : Rat) = 19 / 20 := by norm_num
  have low : (5 / 100 : Rat) = 1 / 20 := by norm_num
  rw [Band.stopLearning, if_pos h, half, high, low]
  rfl

theorem Band.stopLearning_of_not_pos {b : Band} (h : ¬ 0 < b.hist.total) : b.stopLearning = b := by
  rw [Band.stopLearning, if_neg h]

/-- R277, R337: the band that stops learning at a commit, after it. -/
theorem State.commit_stopsLearning {s : State} {j : Nat} (hj : j < Config.numBands) (dirty : s.bands[j].dirty = true)
    (learn : s.bands[j].comm.learn = true) (stop : s.bands[j].staged.learn = false) :
    ∃ b : Band, s.bands[j].SameHist b ∧ b.staged = s.bands[j].staged ∧ b.comm.thresh = s.bands[j].staged.thresh ∧
      b.comm.knee = s.bands[j].staged.knee ∧ b.comm.learn = false ∧
      b.stopLearning.SameRegs s.commit.bands[j] ∧ b.stopLearning.SameHist s.commit.bands[j] := by
  have hist := s.commitStructural_hist (C := .standard) hj
  obtain ⟨staged, comm⟩ := s.commitStructural_band (C := .standard) hj
  obtain ⟨-, -, flags⟩ := s.commitStructural_frame (C := .standard)
  obtain ⟨regs, after⟩ := s.commit_afterBands (C := .standard) hj
  have learn' : s.commitStructural.bands[j].comm.learn = true := by
    rw [comm]
    exact learn
  obtain ⟨f, d, t, l, -, -, cases⟩ := s.commitStructural.bands[j].commitN_cases (C := .standard) s.commitStructural.w
  rw [State.commitBands_bands, mapV_get, flags j hj, if_pos dirty] at regs after
  rw [staged, stop, learn'] at cases
  generalize s.commitStructural.bands[j] = c at hist staged cases regs after
  rcases cases with ⟨contra, -⟩ | ⟨-, -, e⟩ | ⟨contra, -⟩
  · cases contra
  · rw [e] at regs after
    refine ⟨c.settled f d t l, hist.trans (Band.settled_sameHist ..), staged, ?_, ?_, ?_, regs, after⟩
    · rw [Band.settled_comm, staged]
      rfl
    · rw [Band.settled_comm, staged]
      rfl
    · rw [Band.settled_comm, staged]
      exact stop
  · cases contra

/-- Settles O30: the commit stops the learning, and the frames after it leave registers, histogram and percentiles. -/
theorem stopLearning : Obligations.StopLearning := by
  intro s t n b hp h dirty learn stop
  obtain ⟨fr, -, rfl⟩ := execProcess_prepared hp h
  obtain ⟨x, hist, staged, thresh, knee, idle, regs, after⟩ :=
    State.commit_stopsLearning (s := s.consume n) b.isLt dirty learn stop
  generalize (s.consume n).commit = c at regs after ⊢
  obtain ⟨-, -, -, disp, -⟩ := x.stopLearning_frame (C := .standard)
  obtain ⟨-, keptHist, -⟩ := x.stopLearning_frame (C := .standard)
  have stopped : x.SameHist x.stopLearning := ⟨keptHist, by rw [disp], by rw [disp], by rw [disp]⟩
  have quiet : c.bands[(b : Nat)].comm.learn = false := by
    rw [regs.2]
    obtain e | ⟨_, _, e⟩ := x.stopLearning_cases (C := .standard) <;> rw [e] <;> exact idle
  obtain ⟨sameHist, p05, p50, p95⟩ :=
    ((hist.trans stopped).trans after).trans (processFrames_sameHist (C := .standard) b.isLt quiet fr)
  obtain ⟨stagedAfter, commAfter⟩ := regs.trans (processFrames_sameRegs (C := .standard) c fr b.isLt)
  obtain ⟨histX, -⟩ := hist
  have histX' : x.hist = s.bands[(b : Nat)].hist := histX
  simp only [Fin.getElem_fin]
  refine ⟨sameHist, p05, p50, p95, fun filled => ?_, fun empty => ?_⟩
  · rw [stagedAfter, commAfter, Band.stopLearning_of_pos (by rw [histX']; exact filled), histX']
    exact ⟨rfl, rfl, rfl, rfl⟩
  · rw [stagedAfter, commAfter, Band.stopLearning_of_not_pos (by rw [histX']; exact empty), staged, thresh, knee]
    exact ⟨rfl, rfl, rfl, rfl⟩

end Sys2Proof.Machine
end

section
/-! PROOFS. The signal path at rest (45_controller.md R348 to R351, R360, R361, 42_band_filter.md R233, R236, 70_reset_and_hazards.md
R415), the detector without smoothing (43_detector_histogram.md R256 to R262), the correction stage in delay mode
(44_structure_correction.md R315), and the bilinear map of a second-order section (41_coefficient_designer.md R185, R210). -/

namespace Sys2Proof.Machine

/-! ### The bilinear map -/

section

variable {K a0 a1 a2 : Rat} (hK : 0 < K) (h0 : 0 < a0) (h1 : 0 < a1) (h2 : 0 < a2)
include hK h0 h1 h2

/-- The denominator the map normalises by (R185). -/
theorem bltTwo_denominator_pos : 0 < a0 + a1 * K + a2 * (K * K) := by positivity

/-- R210: the three stability conditions, each the quotient of a positive term and the denominator. -/
theorem bltTwo_stable :
    1 + 2 * (a2 * (K * K) - a0) / (a0 + a1 * K + a2 * (K * K)) +
      (a0 - a1 * K + a2 * (K * K)) / (a0 + a1 * K + a2 * (K * K)) = 4 * (a2 * (K * K)) / (a0 + a1 * K + a2 * (K * K)) ∧
    1 - 2 * (a2 * (K * K) - a0) / (a0 + a1 * K + a2 * (K * K)) +
      (a0 - a1 * K + a2 * (K * K)) / (a0 + a1 * K + a2 * (K * K)) = 4 * a0 / (a0 + a1 * K + a2 * (K * K)) ∧
    (a0 - a1 * K + a2 * (K * K)) / (a0 + a1 * K + a2 * (K * K)) < 1 := by
  have positive := bltTwo_denominator_pos hK h0 h1 h2
  refine ⟨?_, ?_, ?_⟩
  · field_simp
    ring
  · field_simp
    ring
  · rw [div_lt_one positive]
    have middle := mul_pos h1 hK
    linarith

end

/-- Settles O49: the sums at z = 1 and z = -1 are four times the coefficients of K^2 and of 1, over the same denominator above and
below. -/
theorem bilinearStable : Obligations.BilinearStable := by
  intro K p hK h0 h1 h2 c
  have positive := bltTwo_denominator_pos hK h0 h1 h2
  obtain ⟨atOne, atMinusOne, product⟩ := bltTwo_stable hK h0 h1 h2
  have dc : 1 + c.a1 + c.a2 = 4 * (p.cA2 * (K * K)) / (p.cA0 + p.cA1 * K + p.cA2 * (K * K)) := atOne
  have ny : 1 - c.a1 + c.a2 = 4 * p.cA0 / (p.cA0 + p.cA1 * K + p.cA2 * (K * K)) := atMinusOne
  have dcAbove : c.b0 + c.b1 + c.b2 = 4 * (p.cB2 * (K * K)) / (p.cA0 + p.cA1 * K + p.cA2 * (K * K)) := by
    unfold c bltTwoAt normalise
    dsimp only
    field_simp
    ring
  have nyAbove : c.b0 - c.b1 + c.b2 = 4 * p.cB0 / (p.cA0 + p.cA1 * K + p.cA2 * (K * K)) := by
    unfold c bltTwoAt normalise
    dsimp only
    field_simp
    ring
  refine ⟨rfl, ?_, ?_, product, ?_, ?_⟩
  · rw [dc]
    positivity
  · rw [ny]
    positivity
  · rw [dc, dcAbove]
    field_simp
  · rw [ny, nyAbove]
    field_simp

/-! ### The detector without smoothing -/

theorem smooth_zero (fs n : Nat) : smooth fs (0 : Rat) n = 0 := if_pos le_rfl

/-- R256: an empty window is at the level of MS_FLOOR. -/
theorem level_zero (w : Nat) : level w (0 : Rat) = -120 := by
  have floor : max (max (0 : Rat) 0 / (w : Rat)) Config.standard.msFloor = Config.standard.msFloor := by
    rw [max_self, zero_div, Config.standard_msFloor]
    norm_num
  rw [level, floor]
  exact Config.standard_levelFloorDb

/-- Settles O59: both time constants give the smoothing factor 0. -/
theorem detectorInstant : Obligations.DetectorInstant := by
  refine ⟨fun b fs n lb ref attack release => ?_, level_zero⟩
  have momentary : lb + smooth fs (if b.det.ls < lb then b.comm.attack else b.comm.release) n * (b.det.ls - lb) = lb := by
    rw [attack, release, ite_self, smooth_zero, zero_mul, add_zero]
  unfold Band.envelope
  dsimp only
  rw [momentary]
  exact ⟨rfl, rfl⟩

/-! ### The correction stage in delay mode -/

/-- The history in the order of time, the oldest sample first. -/
def CorrSlot.queue (c : CorrSlot) : List Rat := c.hist.rotate c.cpos

/-- A ring read backwards is its queue reversed (20_memory.md R66). -/
theorem ringBack_eq {h : List Rat} {p : Nat} (hp : p < h.length) : ringBack h p = (h.rotate ((p + 1) % h.length)).reverse := by
  rw [List.rotate_mod, List.rotate_eq_drop_append_take (by omega), List.reverse_append]
  rfl

theorem corrTick_length (c : CorrSlot) (M : Nat) (x : Rat) : (corrTick false M c x).2.hist.length = c.hist.length :=
  List.length_set

section

variable {c : CorrSlot} (hc : c.cpos < c.hist.length)
include hc

/-- A tick in delay mode puts the sample at the end of the queue and drops the oldest. -/
theorem corrTick_queue (M : Nat) (x : Rat) :
    c.hist[c.cpos] :: (corrTick false M c x).2.queue = c.queue ++ [x] := by
  have after : (corrTick false M c x).2.queue = (c.hist.set c.cpos x).rotate ((c.cpos + 1) % (c.hist.set c.cpos x).length) := rfl
  rw [after, List.length_set, rotate_set_succ hc, CorrSlot.queue, List.rotate_eq_drop_append_take hc.le,
    List.drop_eq_getElem_cons hc, List.cons_append, List.cons_append, List.append_assoc]

theorem corrTick_cpos (M : Nat) (x : Rat) : (corrTick false M c x).2.cpos < (corrTick false M c x).2.hist.length := by
  have pos : (corrTick false M c x).2.cpos = (c.cpos + 1) % (c.hist.set c.cpos x).length := rfl
  rw [pos, corrTick_length, List.length_set]
  exact Nat.mod_lt _ (by omega)

/-- R315: what comes out is the sample M places before the newest. -/
theorem corrTick_out {M : Nat} (hM : M < c.hist.length) (x : Rat) :
    some (corrTick false M c x).1 = (c.queue ++ [x])[c.hist.length - M]? := by
  have out : (corrTick false M c x).1 = (ringBack (c.hist.set c.cpos x) c.cpos).getD M 0 := rfl
  have back : ringBack (c.hist.set c.cpos x) c.cpos = (corrTick false M c x).2.queue.reverse :=
    ringBack_eq (by rw [List.length_set]; exact hc)
  have length : (corrTick false M c x).2.queue.length = c.hist.length := by
    rw [CorrSlot.queue, List.length_rotate, corrTick_length]
  have place : c.hist.length - M = (c.hist.length - 1 - M) + 1 := by omega
  rw [← corrTick_queue hc M x, place, List.getElem?_cons_succ, out, back, List.getD_eq_getElem?_getD,
    List.getElem?_reverse (by rw [length]; exact hM), length]
  rw [List.getElem?_eq_getElem (by rw [length]; omega), Option.getD_some]

end

/-- The output of a run is the queue before it and the samples that came in, read M places back. -/
theorem corrRun_delay {M : Nat} : ∀ (xs : List Rat) (c : CorrSlot), c.cpos < c.hist.length → M < c.hist.length →
    ∀ n < xs.length, (corrRun false M c xs).1[n]? = (c.queue ++ xs)[c.hist.length + n - M]?
  | x :: xs, c, hc, hM, 0, _ => by
    have inside : c.hist.length - M < (c.queue ++ [x]).length := by
      rw [List.length_append, CorrSlot.queue, List.length_rotate, List.length_singleton]
      omega
    calc (corrRun false M c (x :: xs)).1[0]?
      _ = some (corrTick false M c x).1 := rfl
      _ = (c.queue ++ [x])[c.hist.length - M]? := corrTick_out hc hM x
      _ = ((c.queue ++ [x]) ++ xs)[c.hist.length - M]? := (List.getElem?_append_left inside).symm
      _ = (c.queue ++ x :: xs)[c.hist.length + 0 - M]? := by rw [List.append_assoc, List.singleton_append, Nat.add_zero]
  | x :: xs, c, hc, hM, n + 1, hn => by
    have rest := corrRun_delay xs (corrTick false M c x).2 (corrTick_cpos hc M x) (by rwa [corrTick_length]) n
      (Nat.lt_of_succ_lt_succ hn)
    rw [corrTick_length] at rest
    have place : c.hist.length + (n + 1) - M = (c.hist.length + n - M) + 1 := by omega
    calc (corrRun false M c (x :: xs)).1[n + 1]?
      _ = (corrRun false M (corrTick false M c x).2 xs).1[n]? := rfl
      _ = ((corrTick false M c x).2.queue ++ xs)[c.hist.length + n - M]? := rest
      _ = (c.hist[c.cpos] :: (corrTick false M c x).2.queue ++ xs)[c.hist.length + n - M + 1]? := rfl
      _ = (c.queue ++ x :: xs)[c.hist.length + (n + 1) - M]? := by
        rw [corrTick_queue hc, place, List.append_assoc, List.singleton_append]

/-- Settles O54: from the M-th sample on, M places back is past the queue. -/
theorem delayMode : Obligations.DelayMode := by
  intro M c xs hM hc
  refine ⟨corrRun_length .., fun n late hn => ?_⟩
  have length : c.queue.length = c.hist.length := List.length_rotate ..
  rw [corrRun_delay xs c hc hM n hn, List.getElem?_append_right (by omega), length]
  congr 1
  omega

end Sys2Proof.Machine
end

section
/-! PROOFS. A sub-block at rest (45_controller.md R348, R349, R361, 70_reset_and_hazards.md R415, 42_band_filter.md R233, R236,
43_detector_histogram.md R267): stages that hand their input on, and bands that keep their state. -/

namespace Sys2Proof.Machine

section

set_option linter.unusedSectionVars false

variable {V : Type} [Zero V] [One V] [NatCast V] [Add V] [Sub V] [Neg V] [Mul V] [Div V]
  [LT V] [LE V] [BEq V] [Min V] [Max V] [DecidableLT V] [DecidableLE V] {C : Config V}

/-! ### Walks that change nothing -/

theorem accL_eq_self {σ α : Type} (f : Nat → σ → α → σ × α) : ∀ (xs : List α) (i : Nat) (a : σ),
    (∀ i, ∀ x ∈ xs, f i a x = (a, x)) → accL f i a xs = (a, xs)
  | [], _, _, _ => rfl
  | x :: xs, i, a, h => by
    have rest := accL_eq_self f xs (i + 1) a fun i y hy => h i y (List.mem_cons_of_mem x hy)
    rw [accL, h i x List.mem_cons_self, rest]

/-- A walk that leaves every element and the accumulator. -/
theorem accV_eq_self {σ α : Type} {n : Nat} (f : Nat → σ → α → σ × α) (a : σ) (v : Vector α n)
    (h : ∀ i, ∀ j (hj : j < n), f i a v[j] = (a, v[j])) : accV f a v = (a, v) := by
  have rest := accL_eq_self f v.toList 0 a fun i x hx => by
    obtain ⟨j, hj, rfl⟩ := List.getElem_of_mem hx
    simpa using h i j (by simpa using hj)
  unfold accV
  simp only [rest]
  rfl

/-! ### Lanes without members -/

/-- A lane without members hands its samples on (R234, R235). -/
theorem laneRun_of_no_member (es : Structure) (fs : Nat) (m : Stereo) (slot : Slot) (ts : List (List V))
    {bands : Vector (Band V) Config.numBands} (xs : List V) (h : ∀ j (hj : j < Config.numBands), bands[j].member m = false) :
    laneRun es fs m slot ts bands xs C = (xs, bands) := by
  have series : laneSeries es fs m slot ts bands xs C = (xs, bands) :=
    accV_eq_self _ xs bands fun i j hj => if_neg (Bool.eq_false_iff.1 (h j hj))
  have parallel : laneParallel es fs m slot ts bands xs C = (xs, bands) :=
    accV_eq_self _ xs bands fun i j hj => if_neg (Bool.eq_false_iff.1 (h j hj))
  unfold laneRun
  split
  · rfl
  · exact parallel
  · exact series

/-- A lane leaves a band that is no member (R233, R236). -/
theorem laneRun_band_of_no_member (es : Structure) (fs : Nat) (m : Stereo) (slot : Slot) (ts : List (List V))
    {bands : Vector (Band V) Config.numBands} (xs : List V) {j : Nat} (hj : j < Config.numBands)
    (h : bands[j].member m = false) : (laneRun es fs m slot ts bands xs C).2[j] = bands[j] := by
  have out := Bool.eq_false_iff.1 h
  have series : (laneSeries es fs m slot ts bands xs C).2[j] = bands[j] := by
    unfold laneSeries
    obtain ⟨a, e⟩ := accV_get (fun i v b => if b.member m then bandRun es fs slot b (ts.getD i []) v else (v, b)) xs bands j hj
    rw [e, if_neg out]
  have parallel : (laneParallel es fs m slot ts bands xs C).2[j] = bands[j] := by
    obtain ⟨a, e⟩ := accV_get (fun i acc b => if b.member m then
      ((acc.zipWith (· + ·) ((bandRun es fs slot b (ts.getD i []) xs).1.zipWith (· - ·) xs)),
        (bandRun es fs slot b (ts.getD i []) xs).2) else (acc, b)) xs bands j hj
    exact e.trans (by rw [if_neg out])
  unfold laneRun
  split
  · rfl
  · exact parallel
  · exact series

/-! ### Stages that hand their input on -/

/-- In this mode no lane, and no compensation, changes a sample: the mode is not NORMAL, or no band is active and the
compensation is off (R349, R356). -/
def State.LanesIdle (s : State V) (mode : Mode) : Prop :=
  mode ≠ .normal ∨ (∀ j (hj : j < Config.numBands), s.bands[j].comm.active = false) ∧ s.cg.sgcOn = false

theorem Band.member_of_inactive {b : Band V} (h : b.comm.active = false) (m : Stereo) : b.member m = false := by
  rw [Band.member, h]
  rfl

theorem Band.member_of_bypassed {b : Band V} (h : b.comm.bypass = true) (m : Stereo) : b.member m = false := by
  rw [Band.member, h, Bool.not_true, Bool.and_false, Bool.false_and]

theorem slotStage_of_idle {s : State V} {mode : Mode} (idle : s.LanesIdle mode) (free : (effStruct s.cg).correcting = false)
    (ts : List (List V)) (g : Group) (k : Slot) (xs : List V) : slotStage mode ts g k s xs C = (xs, s) := by
  have lane : (if mode = .normal then laneRun (effStruct s.cg) s.fs (g.memberMode k) k ts s.bands xs C
      else (xs, s.bands)) = (xs, s.bands) := by
    rcases idle with other | ⟨inactive, -⟩
    · exact if_neg other
    · rw [laneRun_of_no_member _ _ _ _ _ _ fun j hj => Band.member_of_inactive (inactive j hj) _, ite_self]
  have uncompensated : ¬ (mode = .normal ∧ s.cg.sgcOn = true) := by
    rintro ⟨normal, on⟩
    rcases idle with other | ⟨-, off⟩
    · exact other normal
    · exact Bool.eq_false_iff.1 off on
  have kept : s.corr.set g ((s.corr.get g).set k ((s.corr.get g).get k)) = s.corr := by
    cases g <;> cases k <;> rfl
  unfold slotStage
  dsimp only
  rw [lane, free, if_neg Bool.false_ne_true, if_neg uncompensated]
  dsimp only
  rw [kept]

/-! ### Bands out of the path -/

/-- `c` is `b` but for what the detection path writes: the detector, the display registers and the histogram (R255). -/
def Band.DetectedOf (b c : Band V) : Prop := ∃ det disp hist, c = { b with det := det, disp := disp, hist := hist }

theorem Band.DetectedOf.refl (b : Band V) : b.DetectedOf b := ⟨b.det, b.disp, b.hist, rfl⟩

theorem Band.DetectedOf.trans {a b c : Band V} (h : a.DetectedOf b) (k : b.DetectedOf c) : a.DetectedOf c := by
  obtain ⟨_, _, _, rfl⟩ := h
  obtain ⟨det, disp, hist, rfl⟩ := k
  exact ⟨det, disp, hist, rfl⟩

theorem Band.detTick_detectedOf (w : Nat) (b : Band V) (side : V × V) : b.DetectedOf (b.detTick w side) :=
  ⟨_, b.disp, b.hist, rfl⟩

theorem Band.update_detectedOf (cg : GlobalRegs V) (fs w n : Nat) (push ok : Bool) (sums : PerMode V) (b : Band V) :
    b.DetectedOf (b.update cg fs w n push ok sums C) := by
  obtain ⟨ls, ov, width, disp, hist, -, updated⟩ := b.update_cases (C := C) cg fs w n push ok sums
  exact ⟨_, disp, hist, updated⟩

theorem detectTicks_detectedOf (w : Nat) : ∀ (fr : List ((V × V) × PerMode V)) (b : Band V), b.DetectedOf (detectTicks w b fr)
  | [], b => .refl b
  | f :: fr, b => (b.detTick_detectedOf w f.1).trans (detectTicks_detectedOf w fr (b.detTick w f.1))

theorem detectHq_detectedOf (cg : GlobalRegs V) (fs w : Nat) : ∀ (fr : List ((V × V) × PerMode V)) (draws : List Bool) (b : Band V),
    b.DetectedOf (detectHq cg fs w draws b fr C).2.2
  | [], _, b => .refl b
  | f :: fr, draws, b => ((b.detTick_detectedOf w f.1).trans (Band.update_detectedOf ..)).trans
      (detectHq_detectedOf cg fs w fr draws.tail _)

theorem detect_detectedOf (cg : GlobalRegs V) (fs w : Nat) (draws : List Bool) (b : Band V) (fr : List ((V × V) × PerMode V)) :
    b.DetectedOf (detect cg fs w draws b fr C).2.2 := by
  unfold detect
  split
  · exact detectHq_detectedOf ..
  · unfold detectNormal
    split
    · exact .refl b
    · dsimp only
      exact (detectTicks_detectedOf w fr b).trans (Band.update_detectedOf ..)

theorem detectStage_detectedOf (s : State V) (fr : List (Frame V)) (j : Nat) (hj : j < Config.numBands) :
    s.bands[j].DetectedOf (detectStage s fr C).2.bands[j] := by
  unfold detectStage detectAll
  dsimp only
  obtain ⟨a, e⟩ := accV_get (fun _ (a : List (List V) × List Bool) (b : Band V) => if b.detects then
      ((a.1 ++ [(detect s.cg s.fs s.w a.2 b (baselineRun s.w s.base (sidePairs fr)).1).1],
        (detect s.cg s.fs s.w a.2 b (baselineRun s.w s.base (sidePairs fr)).1).2.1),
        (detect s.cg s.fs s.w a.2 b (baselineRun s.w s.base (sidePairs fr)).1).2.2)
      else ((a.1 ++ [[]], a.2), b)) ([], s.io.publish) s.bands j hj
  refine Eq.mpr (congrArg s.bands[j].DetectedOf e) ?_
  split
  · exact detect_detectedOf ..
  · exact .refl _

/-- No lane runs band `j` in this mode (R233, R236): the mode is not NORMAL, the structure LINEAR, or the band a member of no
lane. -/
def State.OutOfPath (s : State V) (mode : Mode) (j : Fin Config.numBands) : Prop :=
  mode ≠ .normal ∨ effStruct s.cg = .linear ∨ ∀ m, s.bands[j].member m = false

theorem slotStage_band_of_outOfPath {s : State V} {mode : Mode} {j : Fin Config.numBands} (out : s.OutOfPath mode j)
    (ts : List (List V)) (g : Group) (k : Slot) (xs : List V) : (slotStage mode ts g k s xs C).2.bands[j] = s.bands[j] := by
  unfold slotStage
  dsimp only
  split
  next normal =>
    rcases out with other | linear | noMember
    · exact absurd normal other
    · rw [linear, laneRun]
    · exact laneRun_band_of_no_member _ _ _ _ _ _ j.isLt (noMember _)
  next => rfl

theorem State.OutOfPath.of_same {s t : State V} {mode : Mode} {j : Fin Config.numBands} (out : s.OutOfPath mode j)
    (cg : t.cg = s.cg) (band : t.bands[j] = s.bands[j]) : t.OutOfPath mode j := by
  unfold State.OutOfPath
  rw [cg, band]
  exact out

theorem groupStage_band_of_outOfPath {s : State V} {mode : Mode} {j : Fin Config.numBands} (out : s.OutOfPath mode j)
    (ts : List (List V)) (g : Group) (x : Pair V) :
    (groupStage mode ts g s x C).2.bands[j] = s.bands[j] ∧ (groupStage mode ts g s x C).2.OutOfPath mode j := by
  unfold groupStage
  split
  · have first := slotStage_band_of_outOfPath (C := C) out ts g .s0 (groupIn g x).1
    have out1 := out.of_same (t := (slotStage mode ts g .s0 s (groupIn g x).1 C).2) rfl first
    have second := slotStage_band_of_outOfPath (C := C) out1 ts g .s1 (groupIn g x).2
    exact ⟨second.trans first, out1.of_same rfl second⟩
  · exact ⟨rfl, out⟩

/-- The stages after the detectors leave a band that is out of the path. -/
theorem mainStage_band_of_outOfPath {s : State V} {j : Fin Config.numBands} (out : s.OutOfPath s.mode j) (ts : List (List V))
    (x : Pair V) : (mainStage ts s x C).2.bands[j] = s.bands[j] := by
  have solo : (soloStage s.mode s x).2.bands = s.bands := soloStage_bands ..
  have same : (soloStage s.mode s x).2.cg = s.cg := by
    unfold soloStage
    split <;> rfl
  have out0 : (soloStage s.mode s x).2.OutOfPath s.mode j := out.of_same same (by rw [solo])
  unfold mainStage
  simp only [postStage_bands]
  obtain ⟨st, out1⟩ := groupStage_band_of_outOfPath (C := C) out0 ts .st (soloStage s.mode s x).1
  obtain ⟨lr, out2⟩ := groupStage_band_of_outOfPath (C := C) out1 ts .lr _
  obtain ⟨ms, -⟩ := groupStage_band_of_outOfPath (C := C) out2 ts .ms _
  exact ms.trans (lr.trans (st.trans (by rw [solo])))

theorem Band.detects_eq_false {b : Band V} (h : b.comm.active = false ∨ b.comm.dynOn = false) : b.detects = false := by
  rw [Band.detects]
  rcases h with inactive | static
  · rw [inactive, Bool.false_and]
  · rw [static, Bool.and_false]

/-- What the signal path keeps of a band whose detector does not run (R267). -/
theorem Band.undetected_pathKeeps (w : Nat) (det : Detector V) (hist : Hist V) :
    Band.PathKeeps C w fun b => b.detects = false ∧ b.det = det ∧ b.hist = hist where
  tick := fun b _ runs ⟨idle, _, _⟩ => absurd runs (Bool.eq_false_iff.1 idle)
  update := fun _ _ _ _ _ _ b runs ⟨idle, _, _⟩ => absurd runs (Bool.eq_false_iff.1 idle)
  sections := fun fs t b ⟨idle, d, h⟩ => by
    unfold Band.sectionsAt
    split <;> exact ⟨idle, d, h⟩
  filter := fun _ _ _ _ kept => kept

end

/-! ### The effect off, the idle engine, bands at rest -/

theorem groupOut_groupIn (g : Group) {x : Pair} (h : x.1.length = x.2.length) : groupOut g (groupIn g x) = x := by
  unfold groupOut groupIn
  split
  · exact msDecode_msEncode h
  · rfl

theorem groupStage_of_idle {s : State} {mode : Mode} (idle : s.LanesIdle mode) (free : (effStruct s.cg).correcting = false)
    (ts : List (List Rat)) (g : Group) {x : Pair} (h : x.1.length = x.2.length) : groupStage mode ts g s x = (x, s) := by
  unfold groupStage
  split
  · simp only [slotStage_of_idle idle free]
    rw [groupOut_groupIn g h]
  · rfl

/-- Solo filter, lanes and corrections out of the way, the post stage is left (R348). -/
theorem mainStage_of_idle {s : State} (notSolo : s.mode ≠ .solo) (idle : s.LanesIdle s.mode)
    (free : (effStruct s.cg).correcting = false) (ts : List (List Rat)) {x : Pair} (h : x.1.length = x.2.length) :
    mainStage ts s x = postStage s.mode s x := by
  have solo : soloStage s.mode s x = (x, s) := by
    unfold soloStage
    split
    next isSolo _ => exact absurd isSolo notSolo
    · rfl
  unfold mainStage
  simp only [solo, groupStage_of_idle idle free ts _ h]

theorem zip_mainPairs (fr : List Frame) : (mainPairs fr).1.zip (mainPairs fr).2 = fr.map fun f => (f.mL, f.mR) :=
  List.zip_map' ..

theorem mainPairs_length (fr : List Frame) : (mainPairs fr).1.length = (mainPairs fr).2.length := by simp [mainPairs]

theorem detectStage_mode (s : State) (fr : List Frame) : (detectStage s fr).2.mode = s.mode := rfl

/-- Settles O56: the mode is OFF, in which every stage after the detectors hands its input on. -/
theorem effectOff : Obligations.EffectOff := by
  intro s fr off free
  have mode : s.mode = .off := by rw [State.mode, off]; rfl
  have passed : mainStage (detectStage s fr).1 (detectStage s fr).2 (mainPairs fr) = (mainPairs fr, (detectStage s fr).2) := by
    have notSolo : (detectStage s fr).2.mode ≠ .solo := by
      rw [detectStage_mode, mode]
      decide
    have notNormal : (detectStage s fr).2.mode ≠ .normal := by
      rw [detectStage_mode, mode]
      decide
    rw [mainStage_of_idle notSolo (.inl notNormal) free _ (mainPairs_length fr), detectStage_mode, mode]
    rfl
  unfold subblock
  dsimp only
  rw [passed]
  exact ⟨zip_mainPairs fr, rfl⟩

/-- With unity output gain the post stage hands its input on too (R345). -/
theorem mainStage_of_idle_unity {s : State} (notSolo : s.mode ≠ .solo) (idle : s.LanesIdle s.mode)
    (free : (effStruct s.cg).correcting = false) (gain : s.outGain = 1) (ts : List (List Rat)) {x : Pair}
    (h : x.1.length = x.2.length) : (mainStage ts s x).1 = x := by
  rw [mainStage_of_idle notSolo idle free ts h]
  unfold postStage
  split
  · rw [gain]
    simp
  · rfl

/-- lin(0) of the rational ARITH (log entry 1). -/
theorem lin_zero : Arith.lin (0 : Rat) = 1 := by decide +kernel

/-- R345: no gain is set. -/
theorem State.outGain_eq_one {s : State} (phase : s.cg.phaseFlip = false) (trim : s.cg.trim = 0) (again : s.again = 0) :
    s.outGain = 1 := by
  rw [State.outGain, phase, trim, again, lin_zero]
  norm_num

/-- Settles O57: no lane changes a sample, and the output gain is 1. -/
theorem idleTransparent : Obligations.IdleTransparent := by
  intro s fr inactive noSolo free sgcOff trim again phase
  have inactive' : ∀ j (hj : j < Config.numBands), (detectStage s fr).2.bands[j].comm.active = false := fun j hj => by
    obtain ⟨-, comm⟩ := detectStage_keeps (s.bands[j].sameRegs_pathKeeps (C := .standard) s.w) fr j hj ⟨rfl, rfl⟩
    rw [comm]
    exact inactive ⟨j, hj⟩
  have notSolo : (detectStage s fr).2.mode ≠ .solo := by
    rw [detectStage_mode, State.mode, noSolo]
    cases s.cg.effectOn <;> decide
  have gain : (detectStage s fr).2.outGain = 1 := State.outGain_eq_one phase trim again
  have passed := mainStage_of_idle_unity notSolo (.inr ⟨inactive', sgcOff⟩) free gain (detectStage s fr).1
    (mainPairs_length fr)
  unfold subblock
  dsimp only
  rw [passed]
  exact zip_mainPairs fr

/-- Settles O58: no lane runs a band that is out of the path, and the filter state is written in a lane only. -/
theorem stateRests : Obligations.StateRests := by
  intro s fr b
  constructor
  · intro rests
    obtain ⟨det, disp, hist, detected⟩ : s.bands[b].DetectedOf (detectStage s fr).2.bands[b] :=
      detectStage_detectedOf s fr b b.isLt
    have noMember (h : s.bands[b].comm.active = false ∨ s.bands[b].comm.bypass = true) (m : Stereo) :
        (detectStage s fr).2.bands[b].member m = false := by
      rw [detected]
      rcases h with inactive | bypassed
      · exact Band.member_of_inactive inactive m
      · exact Band.member_of_bypassed bypassed m
    have out : (detectStage s fr).2.OutOfPath (detectStage s fr).2.mode b := by
      rw [detectStage_mode]
      rcases rests with inactive | bypassed | off | solo | linear
      · exact .inr (.inr (noMember (.inl inactive)))
      · exact .inr (.inr (noMember (.inr bypassed)))
      · left
        simp [State.mode, off]
      · left
        rw [State.mode, solo]
        cases s.cg.effectOn <;> decide
      · exact .inr (.inl linear)
    have main := mainStage_band_of_outOfPath (C := .standard) out (detectStage s fr).1 (mainPairs fr)
    unfold subblock
    dsimp only
    rw [main, detected]
  · intro idle
    obtain ⟨-, kept⟩ := subblock_keeps (Band.undetected_pathKeeps s.w s.bands[b].det s.bands[b].hist) fr b b.isLt
      ⟨Band.detects_eq_false idle, rfl, rfl⟩
    exact kept

end Sys2Proof.Machine
end

section
/-! PROOFS. No command reads a display register into anything but a response (20_memory.md R76, 60_exceptions.md R393): every
operation takes states that agree but for what is published to states that do. The relation is equality after
`State.hideDisplay`; an operation that respects it is `Blind`. -/

namespace Sys2Proof.Machine

/-! ### Bands -/

/-- An operation whose result does not depend on the display registers, but for the display registers it leaves. -/
def Band.Blind (f : Band → Band) : Prop := ∀ b, (f b.hideDisplay).hideDisplay = (f b).hideDisplay

theorem Band.Blind.alike {f : Band → Band} (hf : Band.Blind f) {b b' : Band} (h : b.hideDisplay = b'.hideDisplay) :
    (f b).hideDisplay = (f b').hideDisplay := by
  rw [← hf b, h, hf b']

/-- Bands that agree but for the display registers differ in those only. -/
theorem Band.exists_disp_of_alike {b b' : Band} (h : b.hideDisplay = b'.hideDisplay) : ∃ d, b' = { b with disp := d } := by
  refine ⟨b'.disp, ?_⟩
  have same : { b with disp := b'.disp } = { b' with disp := b'.disp } :=
    congrArg (fun c : Band => { c with disp := b'.disp }) h
  exact same.symm

theorem Band.comm_of_alike {b b' : Band} (h : b.hideDisplay = b'.hideDisplay) : b.comm = b'.comm := (congrArg Band.comm h :)

theorem Band.member_of_alike {b b' : Band} (h : b.hideDisplay = b'.hideDisplay) (m : Stereo) : b.member m = b'.member m := by
  rw [Band.member, Band.member, Band.comm_of_alike h]

theorem Band.detects_of_alike {b b' : Band} (h : b.hideDisplay = b'.hideDisplay) : b.detects = b'.detects := by
  rw [Band.detects, Band.detects, Band.comm_of_alike h]

theorem Band.hideDisplay_ite (p : Prop) [Decidable p] {a a' b b' : Band} (ha : a.hideDisplay = a'.hideDisplay)
    (hb : b.hideDisplay = b'.hideDisplay) : (if p then a else b).hideDisplay = (if p then a' else b').hideDisplay := by
  split
  · exact ha
  · exact hb

theorem Band.zeroFilter_blind : Band.Blind Band.zeroFilter := fun _ => rfl

theorem Band.resetDetector_blind (w : Nat) : Band.Blind (Band.resetDetector w) := fun _ => rfl

theorem Band.clearHist_blind : Band.Blind Band.clearHist := fun _ => rfl

theorem Band.runBase_blind : Band.Blind Band.runBase := fun _ => rfl

theorem Band.recompute_blind (fs : Nat) : Band.Blind (Band.recompute fs) := fun _ => rfl

theorem Band.prepare_blind (w : Nat) : Band.Blind (Band.prepare w) := fun _ => rfl

theorem Band.freeze_blind : Band.Blind Band.freeze := fun b => by
  unfold Band.freeze
  exact Band.hideDisplay_ite (b.comm.active && !b.comm.bypass) rfl rfl

theorem Band.stopLearning_blind : Band.Blind Band.stopLearning := fun b => by
  unfold Band.stopLearning
  exact Band.hideDisplay_ite (0 < b.hist.total) rfl rfl

theorem Band.commitG_blind (w : Nat) : Band.Blind (Band.commitG w) := fun b => by
  unfold Band.commitG
  exact Band.hideDisplay_ite ((b.staged.active && !b.comm.active) || b.staged.stereo != b.comm.stereo) rfl rfl

theorem Band.commitB_blind : Band.Blind Band.commitB := fun b => by
  unfold Band.commitB
  exact Band.hideDisplay_ite (b.comm.bypass && !b.staged.bypass) rfl rfl

/-- R337: each of the steps in turn. -/
theorem Band.commitN_blind (w : Nat) : Band.Blind (Band.commitN w) := fun b => by
  unfold Band.commitN
  refine Band.hideDisplay_ite _ (Band.clearHist_blind.alike ?rested)
    (Band.hideDisplay_ite _ (Band.stopLearning_blind.alike ?rested) ?rested)
  refine Band.hideDisplay_ite _ ?reset (congrArg (fun c : Band => { c with det := { c.det with t := 0 } }) ?reset)
  refine Band.hideDisplay_ite _ ((Band.resetDetector_blind w).alike ?filter) ?filter
  exact Band.hideDisplay_ite _ rfl rfl

/-! ### The filter -/

theorem Band.sectionsAt_blind (fs : Nat) (t : Rat) : Band.Blind fun b => b.sectionsAt fs t := fun b => by
  unfold Band.sectionsAt
  exact Band.hideDisplay_ite b.comm.dynOn rfl rfl

theorem bandTick_alike (es : Structure) (fs : Nat) (slot : Slot) (t x : Rat) {b b' : Band} (h : b.hideDisplay = b'.hideDisplay) :
    (bandTick es fs slot b t x).1 = (bandTick es fs slot b' t x).1 ∧
      (bandTick es fs slot b t x).2.hideDisplay = (bandTick es fs slot b' t x).2.hideDisplay := by
  have designed := (Band.sectionsAt_blind fs t).alike h
  unfold bandTick
  dsimp only at designed ⊢
  generalize b.sectionsAt fs t = c at designed ⊢
  generalize b'.sectionsAt fs t = c' at designed ⊢
  obtain ⟨d, rfl⟩ := Band.exists_disp_of_alike designed
  exact ⟨rfl, rfl⟩

theorem bandRun_alike (es : Structure) (fs : Nat) (slot : Slot) : ∀ (xs ts : List Rat) {b b' : Band},
    b.hideDisplay = b'.hideDisplay → (bandRun es fs slot b ts xs).1 = (bandRun es fs slot b' ts xs).1 ∧
      (bandRun es fs slot b ts xs).2.hideDisplay = (bandRun es fs slot b' ts xs).2.hideDisplay
  | [], _, _, _, h => ⟨rfl, h⟩
  | x :: xs, ts, _, _, h => by
    obtain ⟨first, ticked⟩ := bandTick_alike es fs slot (ts.headD 0) x h
    obtain ⟨others, run⟩ := bandRun_alike es fs slot xs ts.tail ticked
    exact ⟨congrArg₂ List.cons first others, run⟩

/-! ### The detector -/

theorem Band.detTick_blind (w : Nat) (side : Rat × Rat) : Band.Blind fun b => b.detTick w side := fun _ => rfl

theorem Band.envelope_blind (fs n : Nat) (lb ref : Rat) : Band.Blind (Band.envelope fs n lb ref) := fun _ => rfl

theorem Band.publishLevel_hideDisplay (ok : Bool) (b : Band) : (b.publishLevel ok).hideDisplay = b.hideDisplay := by
  cases ok <;> rfl

/-- LEARN.STEP reads no display register, and its draw selects only what is published. -/
theorem Band.learnStep_alike (cg : GlobalRegs) (lb ref : Rat) (ok ok' : Bool) {b b' : Band} (h : b.hideDisplay = b'.hideDisplay) :
    (b.learnStep cg lb ref ok).hideDisplay = (b'.learnStep cg lb ref ok').hideDisplay := by
  obtain ⟨d, rfl⟩ := Band.exists_disp_of_alike h
  unfold Band.learnStep
  refine Band.hideDisplay_ite _ ?_ rfl
  cases ok <;> cases ok' <;> rfl

/-- An update reads no display register, and its draw selects only what is published (R76). -/
theorem Band.update_alike (cg : GlobalRegs) (fs w n : Nat) (push ok ok' : Bool) (sums : PerMode Rat) {b b' : Band}
    (h : b.hideDisplay = b'.hideDisplay) :
    (b.update cg fs w n push ok sums).hideDisplay = (b'.update cg fs w n push ok' sums).hideDisplay := by
  obtain ⟨d, rfl⟩ := Band.exists_disp_of_alike h
  unfold Band.update
  dsimp only
  generalize level w b.det.rms.sum = lb
  generalize refLevel w b.comm sums = ref
  have published : ((b.envelope fs n lb ref).publishLevel ok).hideDisplay =
      ((Band.envelope fs n lb ref { b with disp := d }).publishLevel ok').hideDisplay := by
    rw [Band.publishLevel_hideDisplay, Band.publishLevel_hideDisplay]
    exact (Band.envelope_blind fs n lb ref).alike h
  exact Band.hideDisplay_ite _ (Band.learnStep_alike cg lb ref ok ok' published) published

theorem detectTicks_alike (w : Nat) : ∀ (fr : List ((Rat × Rat) × PerMode Rat)) {b b' : Band}, b.hideDisplay = b'.hideDisplay →
    (detectTicks w b fr).hideDisplay = (detectTicks w b' fr).hideDisplay
  | [], _, _, h => h
  | f :: fr, _, _, h => detectTicks_alike w fr ((Band.detTick_blind w f.1).alike h)

theorem detectHq_alike (cg : GlobalRegs) (fs w : Nat) : ∀ (fr : List ((Rat × Rat) × PerMode Rat)) (draws draws' : List Bool)
    {b b' : Band}, b.hideDisplay = b'.hideDisplay → (detectHq cg fs w draws b fr).1 = (detectHq cg fs w draws' b' fr).1 ∧
      (detectHq cg fs w draws b fr).2.2.hideDisplay = (detectHq cg fs w draws' b' fr).2.2.hideDisplay
  | [], _, _, _, _, h => ⟨rfl, h⟩
  | f :: fr, draws, draws', b, b', h => by
    have updated := Band.update_alike cg fs w 1 fr.isEmpty (nextDraw draws) (nextDraw draws') f.2
      ((Band.detTick_blind w f.1).alike h)
    obtain ⟨factors, run⟩ := detectHq_alike cg fs w fr draws.tail draws'.tail updated
    have factor := congrArg (fun c : Band => c.det.t) updated
    exact ⟨congrArg₂ List.cons factor factors, run⟩

/-- DETECT answers the same factors whatever is displayed and whatever is drawn. -/
theorem detect_alike (cg : GlobalRegs) (fs w : Nat) (draws draws' : List Bool) (fr : List ((Rat × Rat) × PerMode Rat))
    {b b' : Band} (h : b.hideDisplay = b'.hideDisplay) :
    (detect cg fs w draws b fr).1 = (detect cg fs w draws' b' fr).1 ∧
      (detect cg fs w draws b fr).2.2.hideDisplay = (detect cg fs w draws' b' fr).2.2.hideDisplay := by
  unfold detect
  split
  · exact detectHq_alike cg fs w fr draws draws' h
  · unfold detectNormal
    split
    · exact ⟨rfl, h⟩
    next f _ =>
      have updated := Band.update_alike cg fs w fr.length true (nextDraw draws) (nextDraw draws') f.2 (detectTicks_alike w fr h)
      have factor := congrArg (fun c : Band => c.det.t) updated
      exact ⟨congrArg (List.replicate fr.length) factor, updated⟩

/-! ### Walks over the bands -/

/-- A walk over bands that agree: what one step relates, the walk relates. -/
theorem accL_alike {σ : Type} {R : σ → σ → Prop} {f : Nat → σ → Band → σ × Band}
    (step : ∀ i a a' b b', R a a' → b.hideDisplay = b'.hideDisplay →
      R (f i a b).1 (f i a' b').1 ∧ (f i a b).2.hideDisplay = (f i a' b').2.hideDisplay) :
    ∀ (bs bs' : List Band) (i : Nat) (a a' : σ), bs.map Band.hideDisplay = bs'.map Band.hideDisplay → R a a' →
      R (accL f i a bs).1 (accL f i a' bs').1 ∧
        (accL f i a bs).2.map Band.hideDisplay = (accL f i a' bs').2.map Band.hideDisplay
  | [], [], _, _, _, _, r => ⟨r, rfl⟩
  | [], _ :: _, _, _, _, h, _ => nomatch h
  | _ :: _, [], _, _, _, h, _ => nomatch h
  | b :: bs, b' :: bs', i, a, a', h, r => by
    obtain ⟨same, sames⟩ := List.cons.inj h
    obtain ⟨r1, kept⟩ := step i a a' b b' r same
    obtain ⟨r2, kepts⟩ := accL_alike step bs bs' (i + 1) _ _ sames r1
    exact ⟨r2, congrArg₂ List.cons kept kepts⟩

theorem mapV_eq_iff {α β : Type} {n : Nat} {f : α → β} {v v' : Vector α n} :
    mapV f v = mapV f v' ↔ v.toList.map f = v'.toList.map f := by
  rw [← mapV_toList, ← mapV_toList, Vector.toList_inj]

theorem accV_alike {σ : Type} {R : σ → σ → Prop} {f : Nat → σ → Band → σ × Band}
    (step : ∀ i a a' b b', R a a' → b.hideDisplay = b'.hideDisplay →
      R (f i a b).1 (f i a' b').1 ∧ (f i a b).2.hideDisplay = (f i a' b').2.hideDisplay)
    {a a' : σ} {v v' : Vector Band Config.numBands} (h : mapV Band.hideDisplay v = mapV Band.hideDisplay v') (r : R a a') :
    R (accV f a v).1 (accV f a' v').1 ∧ mapV Band.hideDisplay (accV f a v).2 = mapV Band.hideDisplay (accV f a' v').2 := by
  obtain ⟨related, same⟩ := accL_alike step v.toList v'.toList 0 a a' (mapV_eq_iff.1 h) r
  exact ⟨related, mapV_eq_iff.2 (by simpa [accV] using same)⟩

theorem mapV_alike {f : Band → Band} (hf : Band.Blind f) {v v' : Vector Band Config.numBands}
    (h : mapV Band.hideDisplay v = mapV Band.hideDisplay v') :
    mapV Band.hideDisplay (mapV f v) = mapV Band.hideDisplay (mapV f v') := by
  have through (u : Vector Band Config.numBands) :
      mapV Band.hideDisplay (mapV f u) = mapV (fun b => (f b).hideDisplay) (mapV Band.hideDisplay u) := by
    rw [mapV_mapV, mapV_mapV]
    simp only [hf _]
  rw [through, through, h]

theorem comm_of_alike {v v' : Vector Band Config.numBands} (h : mapV Band.hideDisplay v = mapV Band.hideDisplay v') {j : Nat}
    (hj : j < Config.numBands) : v[j].comm = v'[j].comm := by
  have same := congrArg (fun u : Vector Band Config.numBands => u[j].comm) h
  simpa [Band.hideDisplay] using same

theorem detectAll_alike (cg : GlobalRegs) (fs w : Nat) (draws draws' : List Bool) (fr : List ((Rat × Rat) × PerMode Rat))
    {v v' : Vector Band Config.numBands} (h : mapV Band.hideDisplay v = mapV Band.hideDisplay v') :
    (detectAll cg fs w draws v fr).1.1 = (detectAll cg fs w draws' v' fr).1.1 ∧
      mapV Band.hideDisplay (detectAll cg fs w draws v fr).2 = mapV Band.hideDisplay (detectAll cg fs w draws' v' fr).2 := by
  unfold detectAll
  refine accV_alike (R := fun a a' : List (List Rat) × List Bool => a.1 = a'.1) (fun _ a a' b b' r same => ?_) h rfl
  rw [Band.detects_of_alike same]
  dsimp only
  split
  · obtain ⟨factors, detected⟩ := detect_alike cg fs w a.2 a'.2 fr same
    exact ⟨by rw [r, factors], detected⟩
  · exact ⟨by rw [r], same⟩

theorem laneSeries_alike (es : Structure) (fs : Nat) (m : Stereo) (slot : Slot) (ts : List (List Rat)) (xs : List Rat)
    {v v' : Vector Band Config.numBands} (h : mapV Band.hideDisplay v = mapV Band.hideDisplay v') :
    (laneSeries es fs m slot ts v xs).1 = (laneSeries es fs m slot ts v' xs).1 ∧
      mapV Band.hideDisplay (laneSeries es fs m slot ts v xs).2 = mapV Band.hideDisplay (laneSeries es fs m slot ts v' xs).2 := by
  unfold laneSeries
  refine accV_alike (R := Eq) (fun i a a' b b' r same => ?_) h rfl
  subst r
  rw [Band.member_of_alike same]
  split
  · exact bandRun_alike es fs slot a _ same
  · exact ⟨rfl, same⟩

theorem laneParallel_alike (es : Structure) (fs : Nat) (m : Stereo) (slot : Slot) (ts : List (List Rat)) (xs : List Rat)
    {v v' : Vector Band Config.numBands} (h : mapV Band.hideDisplay v = mapV Band.hideDisplay v') :
    (laneParallel es fs m slot ts v xs).1 = (laneParallel es fs m slot ts v' xs).1 ∧
      mapV Band.hideDisplay (laneParallel es fs m slot ts v xs).2 =
        mapV Band.hideDisplay (laneParallel es fs m slot ts v' xs).2 := by
  unfold laneParallel
  refine accV_alike (R := Eq) (fun i a a' b b' r same => ?_) h rfl
  subst r
  rw [Band.member_of_alike same]
  split
  · obtain ⟨out, run⟩ := bandRun_alike es fs slot xs (ts.getD i []) same
    exact ⟨congrArg (fun ys : List Rat => a.zipWith (· + ·) (ys.zipWith (· - ·) xs)) out, run⟩
  · exact ⟨rfl, same⟩

theorem laneRun_alike (es : Structure) (fs : Nat) (m : Stereo) (slot : Slot) (ts : List (List Rat)) (xs : List Rat)
    {v v' : Vector Band Config.numBands} (h : mapV Band.hideDisplay v = mapV Band.hideDisplay v') :
    (laneRun es fs m slot ts v xs).1 = (laneRun es fs m slot ts v' xs).1 ∧
      mapV Band.hideDisplay (laneRun es fs m slot ts v xs).2 = mapV Band.hideDisplay (laneRun es fs m slot ts v' xs).2 := by
  unfold laneRun
  split
  · exact ⟨rfl, h⟩
  · exact laneParallel_alike _ fs m slot ts xs h
  · exact laneSeries_alike _ fs m slot ts xs h

/-! ### What is read of the bands together -/

theorem laneMembers_alike {v v' : Vector Band Config.numBands} (h : mapV Band.hideDisplay v = mapV Band.hideDisplay v')
    (m : Stereo) : (laneMembers v m).map Band.hideDisplay = (laneMembers v' m).map Band.hideDisplay := by
  have through (u : Vector Band Config.numBands) :
      (laneMembers u m).map Band.hideDisplay = (u.toList.map Band.hideDisplay).filter (·.member m) := by
    rw [laneMembers, List.filter_map]
    rfl
  rw [through, through, mapV_eq_iff.1 h]

theorem groupInUse_alike {v v' : Vector Band Config.numBands} (h : mapV Band.hideDisplay v = mapV Band.hideDisplay v') :
    groupInUse v = groupInUse v' :=
  funext fun g => groupInUse_congr (fun _ hj => by rw [comm_of_alike h hj]; exact ⟨rfl, rfl⟩) g

theorem sgcOf_alike {v v' : Vector Band Config.numBands} (h : mapV Band.hideDisplay v = mapV Band.hideDisplay v') :
    (fun m => sgcOf v m) = fun m => sgcOf v' m := by
  have through (u : Vector Band Config.numBands) (m : Stereo) :
      sgcOf u m = ((laneMembers u m).map Band.hideDisplay).foldl (fun acc b => acc * b.sgcFactor) 1 := by
    rw [sgcOf, List.foldl_map]
    rfl
  funext m
  rw [through, through, laneMembers_alike h]

theorem soloSection_alike {v v' : Vector Band Config.numBands} (h : mapV Band.hideDisplay v = mapV Band.hideDisplay v')
    (cg : GlobalRegs) (fs : Nat) : soloSection cg v fs = soloSection cg v' fs := by
  unfold soloSection
  split
  next inside => rw [comm_of_alike h inside]
  next => rfl

theorem laneSections_hideDisplay (ms : List Band) : laneSections (ms.map Band.hideDisplay) = laneSections ms :=
  List.flatMap_map ..

theorem linearTarget_hideDisplay (fs : Nat) (ms : List Band) (w : Rat) :
    linearTarget fs (ms.map Band.hideDisplay) w = linearTarget fs ms w := by
  unfold linearTarget
  rw [List.flatMap_map]
  rfl

theorem corrTarget_hideDisplay (es : Structure) (fs : Nat) (ms : List Band) (w : Rat) :
    corrTarget es fs (ms.map Band.hideDisplay) w = corrTarget es fs ms w := by
  unfold corrTarget
  split
  · rw [matchedTarget, matchedTarget, laneSections_hideDisplay]
  · rw [mixedTarget, mixedTarget, laneSections_hideDisplay]
  · exact linearTarget_hideDisplay fs ms w
  · rfl

theorem laneTaps_alike {ms ms' : List Band} (h : ms.map Band.hideDisplay = ms'.map Band.hideDisplay) (es : Structure) (fs : Nat) :
    laneTaps es fs ms = laneTaps es fs ms' := by
  have through (ns : List Band) : laneTaps es fs ns = laneTaps es fs (ns.map Band.hideDisplay) := by
    unfold laneTaps laneTargets
    simp only [corrTarget_hideDisplay]
  rw [through ms, through ms', h]

theorem designCorr_alike {v v' : Vector Band Config.numBands} (h : mapV Band.hideDisplay v = mapV Band.hideDisplay v')
    (es : Structure) (fs : Nat) (corr : PerGroup (PerSlot CorrSlot)) : designCorr es fs v corr = designCorr es fs v' corr := by
  have slots (m : Stereo) (c : CorrSlot) : designSlot es fs v m c = designSlot es fs v' m c := by
    unfold designSlot
    rw [laneTaps_alike (laneMembers_alike h m)]
  unfold designCorr designGroup
  simp only [slots, groupInUse_alike h]

end Sys2Proof.Machine
end

section
/-! PROOFS. The signal path, the commit and the commands do not read what is published (20_memory.md R76, 60_exceptions.md
R393). -/

namespace Sys2Proof.Machine

/-! ### States -/

/-- An operation on the state whose result does not depend on what is published, but for what it publishes. -/
def State.Blind (f : State → State) : Prop := ∀ s s' : State, s.hideDisplay = s'.hideDisplay → (f s).hideDisplay = (f s').hideDisplay

/-- A state with other displays, draws and responses. -/
def State.withDisplay (s : State) (v : Vector Band Config.numBands) (draws : List Bool) (ctrl audio : List DataWord) : State :=
  { s with bands := v, io := { s.io with publish := draws, respCtrl := ctrl, respAudio := audio } }

/-- States that agree but for what is published differ in that only. -/
theorem State.exists_withDisplay {s s' : State} (h : s.hideDisplay = s'.hideDisplay) :
    ∃ v draws ctrl audio, mapV Band.hideDisplay s.bands = mapV Band.hideDisplay v ∧ s' = s.withDisplay v draws ctrl audio := by
  refine ⟨s'.bands, s'.io.publish, s'.io.respCtrl, s'.io.respAudio, (congrArg State.bands h :), ?_⟩
  have same := congrArg (fun t : State => t.withDisplay s'.bands s'.io.publish s'.io.respCtrl s'.io.respAudio) h
  exact same.symm

theorem State.withDisplay_alike {s : State} {v : Vector Band Config.numBands} {draws : List Bool} {ctrl audio : List DataWord}
    (h : mapV Band.hideDisplay s.bands = mapV Band.hideDisplay v) :
    s.hideDisplay = (s.withDisplay v draws ctrl audio).hideDisplay := by
  simp only [State.hideDisplay, State.withDisplay, h]

theorem State.Blind.comp {f g : State → State} (hg : State.Blind g) (hf : State.Blind f) : State.Blind fun s => g (f s) :=
  fun s s' h => hg _ _ (hf s s' h)

theorem State.hideDisplay_ite (p : Prop) [Decidable p] {a a' b b' : State} (ha : a.hideDisplay = a'.hideDisplay)
    (hb : b.hideDisplay = b'.hideDisplay) : (if p then a else b).hideDisplay = (if p then a' else b').hideDisplay := by
  split
  · exact ha
  · exact hb

/-! ### The commit -/

theorem State.commitS_blind : State.Blind State.commitS := fun s s' h => by
  obtain ⟨v, draws, ctrl, audio, same, rfl⟩ := State.exists_withDisplay h
  exact State.withDisplay_alike (s := s.commitS) (mapV_alike Band.zeroFilter_blind same)

theorem State.commitG_blind : State.Blind State.commitG := fun s s' h => by
  obtain ⟨v, draws, ctrl, audio, same, rfl⟩ := State.exists_withDisplay h
  have taken := mapV_alike (Band.commitG_blind s.w) same
  have comesIn (g : Group) : groupComesIn s.bands s.commitG.bands s.corr g =
      groupComesIn v (mapV (fun b => Band.commitG s.w b) v) s.corr g := by
    rw [groupComesIn, groupComesIn, groupInUse_alike same, State.commitG_bands, groupInUse_alike taken]
  have corr : s.commitG.corr = (s.withDisplay v draws ctrl audio).commitG.corr :=
    congrArg₂ (PerGroup.mk s.corr.st) (comesIn .lr) (comesIn .ms)
  exact congrArg₂ (fun u c => ({ s.commitG with corr := c } : State).withDisplay u [] [] []) taken corr

theorem State.commitB_blind : State.Blind State.commitB := fun s s' h => by
  obtain ⟨v, draws, ctrl, audio, same, rfl⟩ := State.exists_withDisplay h
  exact State.withDisplay_alike (s := s.commitB) (mapV_alike Band.commitB_blind same)

theorem State.commitStructural_blind : State.Blind State.commitStructural := fun s s' h => by
  have pendS : s.pendS = s'.pendS := (congrArg State.pendS h :)
  have pendG : s.pendG = s'.pendG := (congrArg State.pendG h :)
  have pendB : s.pendB = s'.pendB := (congrArg State.pendB h :)
  unfold State.commitStructural
  dsimp only
  rw [pendS, pendG, pendB]
  exact State.hideDisplay_ite _ (State.commitS_blind s s' h) (State.hideDisplay_ite _ (State.commitG_blind s s' h)
    (State.hideDisplay_ite _ (State.commitB_blind s s' h) h))

theorem Band.hideDisplay_dirty (b : Band) : b.hideDisplay.dirty = b.dirty := rfl

theorem Band.commitDirty_blind (w : Nat) : Band.Blind fun b => if b.dirty then b.commitN w else b := fun b => by
  have committed := Band.commitN_blind w b
  dsimp only
  rw [Band.hideDisplay_dirty]
  exact Band.hideDisplay_ite _ committed rfl

theorem State.commitBands_withDisplay (s : State) (v : Vector Band Config.numBands) (draws : List Bool)
    (ctrl audio : List DataWord) : (s.withDisplay v draws ctrl audio).commitBands =
      s.commitBands.withDisplay (mapV (fun b => if b.dirty then b.commitN s.w else b) v) draws ctrl audio := rfl

theorem State.commitBands_blind : State.Blind State.commitBands := fun s s' h => by
  obtain ⟨v, draws, ctrl, audio, same, rfl⟩ := State.exists_withDisplay h
  have taken := mapV_alike (Band.commitDirty_blind s.w) same
  dsimp only
  rw [State.commitBands_withDisplay]
  exact State.withDisplay_alike taken

theorem State.resizeTrackers_blind (w : Nat) : State.Blind fun s => s.resizeTrackers w := fun s s' h => by
  obtain ⟨v, draws, ctrl, audio, same, rfl⟩ := State.exists_withDisplay h
  have resized : Band.Blind fun b => { b with det := { b.det with rms := Tracker.zero w } } := fun _ => rfl
  exact State.withDisplay_alike (s := s.resizeTrackers w) (mapV_alike resized same)

theorem State.commitGlobal_blind : State.Blind State.commitGlobal := fun s s' h => by
  have resized (w : Nat) := State.resizeTrackers_blind w s s' h
  obtain ⟨v, draws, ctrl, audio, -, rfl⟩ := State.exists_withDisplay h
  have base := State.hideDisplay_ite ((s.cg.takeN s.pg).rmsMs == s.cg.rmsMs) h (resized (rmsWindow (s.cg.takeN s.pg) s.fs))
  exact congrArg (fun t : State => { t with
    gdirty := false
    cg := s.cg.takeN s.pg
    meas := if (s.cg.takeN s.pg).measure && !s.cg.measure then Meas.zero else s.meas
    again := if !(s.cg.takeN s.pg).measure && s.cg.measure then s.meas.release s.again else s.again }) base

theorem recomputeBands_alike (es : Structure) (fs : Nat) {v v' : Vector Band Config.numBands}
    (h : mapV Band.hideDisplay v = mapV Band.hideDisplay v') :
    mapV Band.hideDisplay (recomputeBands es fs v) = mapV Band.hideDisplay (recomputeBands es fs v') := by
  have designed := mapV_alike (Band.recompute_blind fs) h
  unfold recomputeBands
  dsimp only
  split
  · exact mapV_alike Band.freeze_blind designed
  · exact designed

/-- RECOMPUTE on bands that are in line (R339). -/
def State.derive (s : State) (v : Vector Band Config.numBands) : State :=
  { s with
    bands := v
    sgc := PerMode.of fun m => sgcOf v m
    soloSec := soloSection s.cg v s.fs
    corr := if (effStruct s.cg).correcting then designCorr (effStruct s.cg) s.fs v s.corr else s.corr }

theorem State.recompute_eq_derive (s : State) : s.recompute = s.derive (recomputeBands (effStruct s.cg) s.fs s.bands) := rfl

theorem State.derive_withDisplay (s : State) (u v : Vector Band Config.numBands) (draws : List Bool)
    (ctrl audio : List DataWord) : (s.withDisplay u draws ctrl audio).derive v = (s.derive v).withDisplay v draws ctrl audio := rfl

theorem State.derive_alike (s : State) {v v' : Vector Band Config.numBands}
    (h : mapV Band.hideDisplay v = mapV Band.hideDisplay v') : (s.derive v).hideDisplay = (s.derive v').hideDisplay := by
  simp only [State.derive, State.hideDisplay, h, sgcOf_alike h, soloSection_alike h, designCorr_alike h]

theorem State.recompute_blind : State.Blind State.recompute := fun s s' h => by
  obtain ⟨v, draws, ctrl, audio, same, rfl⟩ := State.exists_withDisplay h
  have designed := recomputeBands_alike (effStruct s.cg) s.fs same
  dsimp only
  rw [State.recompute_eq_derive, State.recompute_eq_derive, State.derive_withDisplay]
  exact (s.derive_alike designed).trans (State.withDisplay_alike rfl)

theorem State.latencyOf_alike {s s' : State} (h : s.hideDisplay = s'.hideDisplay) : s.latencyOf = s'.latencyOf := by
  obtain ⟨v, draws, ctrl, audio, same, rfl⟩ := State.exists_withDisplay h
  refine (State.latencyOf_congr (C := .standard) (s := s) (t := s.withDisplay v draws ctrl audio) rfl rfl rfl ?_).symm
  show groupCount v = groupCount s.bands
  rw [groupCount, groupCount, groupInUse_alike same]

theorem State.updateLatency_blind : State.Blind State.updateLatency := fun s s' h => by
  have current := State.latencyOf_alike h
  have latency : s.latency = s'.latency := (congrArg State.latency h :)
  unfold State.updateLatency
  dsimp only
  rw [current, latency]
  refine State.hideDisplay_ite _ h ?_
  exact congrArg (fun t : State => { t with
    latency := s'.latencyOf
    latSeq := t.latSeq + 1
    io := { t.io with events := t.io.events ++ [Event.latencyChanged s'.latencyOf] } }) h

theorem State.anyFlag_alike {s s' : State} (h : s.hideDisplay = s'.hideDisplay) : s.anyFlag = s'.anyFlag := by
  obtain ⟨v, draws, ctrl, audio, same, rfl⟩ := State.exists_withDisplay h
  have through (u : Vector Band Config.numBands) :
      u.toList.any (·.dirty) = (u.toList.map Band.hideDisplay).any (·.dirty) := by
    rw [List.any_map]
    rfl
  have dirty : s.bands.toList.any (·.dirty) = v.toList.any (·.dirty) := by rw [through, through, mapV_eq_iff.1 same]
  simp only [State.anyFlag, State.withDisplay, dirty]

/-- R333: COMMIT reads nothing that is published. -/
theorem State.commit_blind : State.Blind State.commit := fun s s' h => by
  have gdirty : s.gdirty = s'.gdirty := (congrArg State.gdirty h :)
  have taken := State.commitBands_blind _ _ (State.commitStructural_blind s s' h)
  unfold State.commit
  dsimp only
  rw [State.anyFlag_alike h]
  refine State.hideDisplay_ite _ ?_ h
  rw [gdirty]
  exact State.updateLatency_blind _ _ <| State.recompute_blind _ _ <|
    State.hideDisplay_ite _ (State.commitGlobal_blind _ _ taken) taken

/-! ### RESET and PREPARE -/

theorem State.resetCmd_blind : State.Blind State.resetCmd := fun s s' h => by
  obtain ⟨v, draws, ctrl, audio, -, rfl⟩ := State.exists_withDisplay h
  rfl

theorem State.prepareClear_withDisplay (s : State) (m f : Nat) (v : Vector Band Config.numBands) (draws : List Bool)
    (ctrl audio : List DataWord) : (s.withDisplay v draws ctrl audio).prepareClear m f =
      (s.prepareClear m f).withDisplay (mapV (fun b => b.prepare (rmsWindow s.pg f)) v) draws ctrl audio := rfl

theorem State.prepareClear_blind (m f : Nat) : State.Blind fun s => s.prepareClear m f := fun s s' h => by
  obtain ⟨v, draws, ctrl, audio, same, rfl⟩ := State.exists_withDisplay h
  have prepared := mapV_alike (Band.prepare_blind (rmsWindow s.pg f)) same
  dsimp only
  rw [State.prepareClear_withDisplay]
  exact State.withDisplay_alike prepared

/-- What PREPARE does to the bands after RECOMPUTE. -/
def State.runBase (s : State) : State := { s with bands := mapV Band.runBase s.bands }

theorem State.runBase_withDisplay (s : State) (v : Vector Band Config.numBands) (draws : List Bool) (ctrl audio : List DataWord) :
    (s.withDisplay v draws ctrl audio).runBase = s.runBase.withDisplay (mapV Band.runBase v) draws ctrl audio := rfl

theorem State.runBase_blind : State.Blind State.runBase := fun s s' h => by
  obtain ⟨v, draws, ctrl, audio, same, rfl⟩ := State.exists_withDisplay h
  have based := mapV_alike Band.runBase_blind same
  rw [State.runBase_withDisplay]
  exact State.withDisplay_alike based

theorem State.prepareWith_blind (m f : Nat) : State.Blind fun s => s.prepareWith m f :=
  State.updateLatency_blind.comp (State.runBase_blind.comp (State.recompute_blind.comp (State.prepareClear_blind m f)))

end Sys2Proof.Machine
end

section
/-! PROOFS. The signal path and the commands do not read what is published (20_memory.md R76, 60_exceptions.md R393). -/

namespace Sys2Proof.Machine

/-! ### One sub-block -/

/-- Results that agree in what is handed on, and in the state but for what is published. -/
def Alike {α : Type} (r r' : α × State) : Prop := r.1 = r'.1 ∧ r.2.hideDisplay = r'.2.hideDisplay

theorem detectStage_alike (fr : List Frame) {s s' : State} (h : s.hideDisplay = s'.hideDisplay) :
    Alike (detectStage s fr) (detectStage s' fr) := by
  obtain ⟨v, draws, ctrl, audio, same, rfl⟩ := State.exists_withDisplay h
  obtain ⟨factors, detected⟩ := detectAll_alike s.cg s.fs s.w s.io.publish draws (baselineRun s.w s.base (sidePairs fr)).1 same
  unfold detectStage State.withDisplay
  dsimp only
  exact ⟨factors, by simp only [State.hideDisplay, detected]⟩

theorem slotStage_alike (mode : Mode) (ts : List (List Rat)) (g : Group) (k : Slot) (xs : List Rat) {s s' : State}
    (h : s.hideDisplay = s'.hideDisplay) : Alike (slotStage mode ts g k s xs) (slotStage mode ts g k s' xs) := by
  obtain ⟨v, draws, ctrl, audio, same, rfl⟩ := State.exists_withDisplay h
  have lane : (if mode = .normal then laneRun (effStruct s.cg) s.fs (g.memberMode k) k ts s.bands xs else (xs, s.bands)).1 =
        (if mode = .normal then laneRun (effStruct s.cg) s.fs (g.memberMode k) k ts v xs else (xs, v)).1 ∧
      mapV Band.hideDisplay
          (if mode = .normal then laneRun (effStruct s.cg) s.fs (g.memberMode k) k ts s.bands xs else (xs, s.bands)).2 =
        mapV Band.hideDisplay
          (if mode = .normal then laneRun (effStruct s.cg) s.fs (g.memberMode k) k ts v xs else (xs, v)).2 := by
    split
    · exact laneRun_alike (effStruct s.cg) s.fs (g.memberMode k) k ts xs same
    · exact ⟨rfl, same⟩
  unfold slotStage State.withDisplay
  dsimp only
  generalize (if mode = .normal then laneRun (effStruct s.cg) s.fs (g.memberMode k) k ts s.bands xs else (xs, s.bands)) = l
    at lane ⊢
  generalize (if mode = .normal then laneRun (effStruct s.cg) s.fs (g.memberMode k) k ts v xs else (xs, v)) = l' at lane ⊢
  obtain ⟨out, run⟩ := lane
  rw [← out]
  exact ⟨rfl, by simp only [State.hideDisplay, run]⟩

theorem groupStage_alike (mode : Mode) (ts : List (List Rat)) (g : Group) (x : Pair) {s s' : State}
    (h : s.hideDisplay = s'.hideDisplay) : Alike (groupStage mode ts g s x) (groupStage mode ts g s' x) := by
  have inUse : groupInUse s.bands = groupInUse s'.bands := groupInUse_alike (congrArg State.bands h :)
  unfold groupStage
  rw [inUse]
  split
  · obtain ⟨out0, kept0⟩ := slotStage_alike mode ts g .s0 (groupIn g x).1 h
    obtain ⟨out1, kept1⟩ := slotStage_alike mode ts g .s1 (groupIn g x).2 kept0
    exact ⟨congrArg (groupOut g) (congrArg₂ Prod.mk out0 out1), kept1⟩
  · exact ⟨rfl, h⟩

theorem soloStage_alike (mode : Mode) (x : Pair) {s s' : State} (h : s.hideDisplay = s'.hideDisplay) :
    Alike (soloStage mode s x) (soloStage mode s' x) := by
  obtain ⟨v, draws, ctrl, audio, same, rfl⟩ := State.exists_withDisplay h
  have soloMode : (s.withDisplay v draws ctrl audio).soloMode = s.soloMode := by
    unfold State.soloMode State.withDisplay
    dsimp only
    split
    next inside => exact congrArg BandRegs.stereo (comm_of_alike same inside).symm
    next => rfl
  have soloSec : (s.withDisplay v draws ctrl audio).soloSec = s.soloSec := rfl
  unfold soloStage
  rw [soloMode, soloSec]
  split
  next c _ =>
    exact ⟨rfl, State.withDisplay_alike (s := { s with soloState := (soloRun c s.soloMode s.soloState x.1 x.2).2 }) same⟩
  next => exact ⟨rfl, h⟩

theorem postStage_alike (mode : Mode) (x : Pair) {s s' : State} (h : s.hideDisplay = s'.hideDisplay) :
    Alike (postStage mode s x) (postStage mode s' x) := by
  obtain ⟨v, draws, ctrl, audio, same, rfl⟩ := State.exists_withDisplay h
  unfold postStage
  split
  · refine ⟨rfl, State.hideDisplay_ite _ ?_ h⟩
    exact congrArg (fun t : State => { t with
      meas := { s.meas with postSum := pairEnergy s.meas.postSum x, postN := s.meas.postN + 2 * x.1.length } }) h
  · exact ⟨rfl, h⟩

theorem mainStage_alike (ts : List (List Rat)) (x : Pair) {s s' : State} (h : s.hideDisplay = s'.hideDisplay) :
    Alike (mainStage ts s x) (mainStage ts s' x) := by
  have mode : s.mode = s'.mode := (congrArg State.mode h :)
  unfold mainStage
  dsimp only
  rw [← mode]
  obtain ⟨solo, soloKept⟩ := soloStage_alike s.mode x h
  rw [← solo]
  obtain ⟨st, stKept⟩ := groupStage_alike s.mode ts .st (soloStage s.mode s x).1 soloKept
  rw [← st]
  obtain ⟨lr, lrKept⟩ := groupStage_alike s.mode ts .lr _ stKept
  rw [← lr]
  obtain ⟨ms, msKept⟩ := groupStage_alike s.mode ts .ms _ lrKept
  rw [← ms]
  exact postStage_alike s.mode _ msKept

/-- R348: a sub-block's outputs do not depend on what is published. -/
theorem subblock_alike (fr : List Frame) {s s' : State} (h : s.hideDisplay = s'.hideDisplay) :
    Alike (subblock s fr) (subblock s' fr) := by
  obtain ⟨factors, detected⟩ := detectStage_alike fr h
  obtain ⟨out, kept⟩ := mainStage_alike (detectStage s fr).1 (mainPairs fr) detected
  unfold subblock
  dsimp only
  rw [← factors]
  exact ⟨by rw [out], kept⟩

/-! ### The frames of a PROCESS -/

theorem frontFrame_alike (f : Frame) {s s' : State} (h : s.hideDisplay = s'.hideDisplay) :
    Alike (frontFrame s f) (frontFrame s' f) := by
  obtain ⟨v, draws, ctrl, audio, same, rfl⟩ := State.exists_withDisplay h
  exact ⟨rfl, State.withDisplay_alike (s := (frontFrame s f).2) same⟩

theorem frontRun_alike : ∀ (fr : List Frame) {s s' : State}, s.hideDisplay = s'.hideDisplay → Alike (frontRun s fr) (frontRun s' fr)
  | [], _, _, h => ⟨rfl, h⟩
  | f :: fr, _, _, h => by
    obtain ⟨frame, kept⟩ := frontFrame_alike f h
    obtain ⟨frames, run⟩ := frontRun_alike fr kept
    exact ⟨congrArg₂ List.cons frame frames, run⟩

theorem State.setFifo_blind (i : Fifo) : State.Blind fun s => { s with fifo := i } := fun _ _ h =>
  congrArg (fun t : State => ({ t with fifo := i } : State)) h

theorem fifoPush_alike (f : Frame) {s s' : State} (h : s.hideDisplay = s'.hideDisplay) :
    Alike (fifoPush s f) (fifoPush s' f) := by
  obtain ⟨v, draws, ctrl, audio, -, rfl⟩ := State.exists_withDisplay h
  obtain ⟨out, kept⟩ := subblock_alike (s.fifo.inp.set s.fifo.pos f)
    (State.setFifo_blind { s.fifo with inp := s.fifo.inp.set s.fifo.pos f } _ _ h)
  have full := State.setFifo_blind { inp := s.fifo.inp.set s.fifo.pos f, out := (subblock { s with fifo :=
    { s.fifo with inp := s.fifo.inp.set s.fifo.pos f } } (s.fifo.inp.set s.fifo.pos f)).1, pos := 0 } _ _ kept
  have partly := State.setFifo_blind { s.fifo with inp := s.fifo.inp.set s.fifo.pos f, pos := s.fifo.pos + 1 } _ _ h
  unfold fifoPush
  unfold State.withDisplay at out full partly ⊢
  dsimp only at out full partly ⊢
  split
  · rw [← out]
    exact ⟨rfl, full⟩
  · exact ⟨rfl, partly⟩

theorem fifoRun_alike : ∀ (fr : List Frame) {s s' : State}, s.hideDisplay = s'.hideDisplay → Alike (fifoRun s fr) (fifoRun s' fr)
  | [], _, _, h => ⟨rfl, h⟩
  | f :: fr, _, _, h => by
    obtain ⟨out, kept⟩ := fifoPush_alike f h
    obtain ⟨outs, run⟩ := fifoRun_alike fr kept
    exact ⟨congrArg₂ List.cons out outs, run⟩

theorem chunkRun_alike : ∀ (cs : List (List Frame)) {s s' : State}, s.hideDisplay = s'.hideDisplay →
    Alike (chunkRun s cs) (chunkRun s' cs)
  | [], _, _, h => ⟨rfl, h⟩
  | c :: cs, _, _, h => by
    obtain ⟨out, kept⟩ := subblock_alike c h
    obtain ⟨outs, run⟩ := chunkRun_alike cs kept
    exact ⟨congrArg₂ List.append out outs, run⟩

theorem splitRun_alike (fr : List Frame) {s s' : State} (h : s.hideDisplay = s'.hideDisplay) :
    Alike (splitRun s fr) (splitRun s' fr) := by
  have cg : s.cg = s'.cg := (congrArg State.cg h :)
  have sublen : s.sublen = s'.sublen := (congrArg State.sublen h :)
  unfold splitRun
  rw [cg, sublen]
  split
  · exact chunkRun_alike _ h
  · exact fifoRun_alike fr h

theorem State.appendOut_blind (ws : List DataWord) :
    State.Blind fun s => { s with io := { s.io with audioOut := s.io.audioOut ++ ws } } := fun _ _ h =>
  congrArg (fun t : State => ({ t with io := { t.io with audioOut := t.io.audioOut ++ ws } } : State)) h

theorem State.emit_blind (out : List (Rat × Rat)) : State.Blind fun s => s.emit out := by
  unfold State.emit
  generalize outWords out = ws
  exact State.appendOut_blind ws

theorem processFrames_blind (fr : List Frame) : State.Blind fun s => processFrames s fr := fun s s' h => by
  obtain ⟨frames, front⟩ := frontRun_alike fr h
  obtain ⟨out, kept⟩ := splitRun_alike (frontRun s fr).1 front
  unfold processFrames
  dsimp only
  rw [← frames, ← out]
  exact State.emit_blind _ _ _ kept

theorem State.consume_blind (n : Nat) : State.Blind fun s => s.consume n := fun _ _ h =>
  congrArg (fun t : State => t.consume n) h

theorem execProcess_alike (n : Nat) {s s' t t' : State} (h : s.hideDisplay = s'.hideDisplay) (run : execProcess n s = .next t)
    (run' : execProcess n s' = .next t') : t.hideDisplay = t'.hideDisplay := by
  have prepared : s'.prepared = s.prepared := (congrArg State.prepared h.symm :)
  have words : s'.inputWords n = s.inputWords n := (congrArg (fun t : State => t.inputWords n) h.symm :)
  have cg : s'.commit.cg = s.commit.cg := (congrArg State.cg (State.commit_blind _ _ h.symm) :)
  have left := State.consume_blind n _ _ h
  unfold execProcess at run run'
  rw [prepared, words, cg] at run'
  cases on : s.prepared with
  | true =>
    rw [on, if_pos rfl] at run run'
    cases frames : framesOf s.commit.cg.scPresent (s.inputWords n) with
    | none =>
      rw [frames] at run
      cases run
    | some fr =>
      rw [frames] at run run'
      cases run
      cases run'
      exact processFrames_blind fr _ _ (State.commit_blind _ _ left)
  | false =>
    rw [on, if_neg Bool.false_ne_true] at run run'
    cases frames : framesOf false (s.inputWords n) with
    | none =>
      rw [frames] at run
      cases run
    | some fr =>
      rw [frames] at run run'
      cases run
      cases run'
      exact State.emit_blind _ _ _ left

/-! ### The commands -/

theorem State.respond_hideDisplay (s : State) (r : DataWord) : (s.respond r).hideDisplay = s.hideDisplay := by
  unfold State.respond
  split <;> rfl

theorem State.respond_blind (r : State → DataWord) : State.Blind fun s => s.respond (r s) := fun s s' h => by
  rw [State.respond_hideDisplay, State.respond_hideDisplay, h]

theorem State.reserved_blind (w : CmdWord) : State.Blind fun s => s.reserved w := fun s s' h =>
  State.hideDisplay_ite _ (State.respond_blind (fun _ => 0) s s' h) h

theorem State.takeCmd_blind (c : PortCmd) (rest : List PortCmd) : State.Blind fun s => s.takeCmd c rest := fun _ _ h =>
  congrArg (fun t : State => t.takeCmd c rest) h

theorem State.writeGlobal_blind (r : GlobalReg) (d : DataWord) : State.Blind fun s => s.writeGlobal r d := fun s s' h => by
  have pg : s.pg = s'.pg := (congrArg State.pg h :)
  unfold State.writeGlobal
  dsimp only
  rw [pg]
  split
  · exact h
  next x _ =>
    have stored := congrArg (fun t : State => { t with pg := x }) h
    cases r.cls with
    | n => exact congrArg (fun t : State => { t with gdirty := true }) stored
    | s => exact congrArg (fun t : State => { t with pendS := true }) stored
    | b => exact congrArg (fun t : State => { t with pendB := true }) stored
    | g => exact congrArg (fun t : State => { t with pendG := true }) stored

theorem set_alike {v v' : Vector Band Config.numBands} (h : mapV Band.hideDisplay v = mapV Band.hideDisplay v') {i : Nat}
    (hi : i < Config.numBands) {x x' : Band} (hx : x.hideDisplay = x'.hideDisplay) :
    mapV Band.hideDisplay (v.set i x) = mapV Band.hideDisplay (v'.set i x') := by
  have through (u : Vector Band Config.numBands) (y : Band) :
      mapV Band.hideDisplay (u.set i y) = (mapV Band.hideDisplay u).set i y.hideDisplay := by
    apply Vector.ext
    intro j hj
    rw [mapV_get, Vector.getElem_set, Vector.getElem_set, mapV_get]
    split <;> rfl
  rw [through, through, h, hx]

theorem State.setBand_blind (b : Fin 16) {f : Band → Band} (hf : Band.Blind f) :
    State.Blind fun s => { s with bands := s.bands.set b (f s.bands[b]) } := fun s s' h => by
  obtain ⟨v, draws, ctrl, audio, same, rfl⟩ := State.exists_withDisplay h
  have band : s.bands[b].hideDisplay = v[b].hideDisplay := by
    simpa using congrArg (fun u : Vector Band Config.numBands => u[b]) same
  exact State.withDisplay_alike (s := { s with bands := s.bands.set b (f s.bands[b]) }) (set_alike same b.isLt (hf.alike band))

theorem State.flagBand_blind (b : Fin 16) (c : RegClass) : State.Blind fun s => s.flagBand b c := fun s s' h => by
  cases c with
  | n => exact State.setBand_blind b (f := fun b => { b with dirty := true }) (fun _ => rfl) s s' h
  | s => exact congrArg (fun t : State => { t with pendS := true }) h
  | b => exact congrArg (fun t : State => { t with pendB := true }) h
  | g => exact congrArg (fun t : State => { t with pendG := true }) h

theorem State.writeBand_blind (r : BandReg) (b : Nat) (d : DataWord) : State.Blind fun s => s.writeBand r b d := fun s s' h => by
  unfold State.writeBand
  dsimp only
  split
  next inside =>
    have staged : s.bands[b].staged = s'.bands[b].staged := by
      simpa [State.hideDisplay, Band.hideDisplay] using congrArg (fun t : State => t.bands[b].staged) h
    rw [staged]
    split
    · exact h
    next x _ =>
      exact State.flagBand_blind ⟨b, inside⟩ r.cls _ _
        (State.setBand_blind ⟨b, inside⟩ (f := fun c => { c with staged := x }) (fun _ => rfl) s s' h)
  next => exact h

theorem prepare_blind (m f : Nat) : State.Blind fun s => if f = 0 then s else s.prepareWith m f := fun s s' h => by
  have prepared := State.prepareWith_blind m f s s' h
  dsimp only at prepared ⊢
  split
  · exact h
  · exact prepared

/-- Every command but PROCESS is an operation on the state that reads nothing that is published into anything but a response. -/
theorem exec_blind {i : Instr} (other : ∀ n, i ≠ .process n) : ∃ f, State.Blind f ∧ ∀ s, exec i s = .next (f s) := by
  cases i
  case nop => exact ⟨fun s => s, fun _ _ h => h, fun _ => rfl⟩
  case reset => exact ⟨State.resetCmd, State.resetCmd_blind, fun _ => rfl⟩
  case prepare m f =>
    exact ⟨_, prepare_blind m f, exec_prepare m f⟩
  case process n => exact absurd rfl (other n)
  all_goals first
    | exact ⟨_, State.writeBand_blind _ _ _, fun _ => rfl⟩
    | exact ⟨_, State.writeGlobal_blind _ _, fun _ => rfl⟩
    | exact ⟨_, State.respond_blind _, fun _ => rfl⟩

theorem exec_alike (i : Instr) {s s' t t' : State} (h : s.hideDisplay = s'.hideDisplay) (run : exec i s = .next t)
    (run' : exec i s' = .next t') : t.hideDisplay = t'.hideDisplay := by
  by_cases process : ∃ n, i = .process n
  · obtain ⟨n, rfl⟩ := process
    exact execProcess_alike n h run run'
  · obtain ⟨f, blind, runs⟩ := exec_blind fun n e => process ⟨n, e⟩
    rw [runs] at run run'
    cases run
    cases run'
    exact blind s s' h

/-- Settles O48: the command is the same in both states, and its effect reads nothing that is published. -/
theorem displayNotRead : Obligations.DisplayNotRead := by
  intro s s' t t' h run run'
  have cmds : s'.io.cmds = s.io.cmds := (congrArg (fun u : State => u.io.cmds) h.symm :)
  have taken (c : PortCmd) (rest : List PortCmd) := State.takeCmd_blind c rest s s' h
  unfold step at run run'
  rw [cmds] at run'
  cases waiting : s.io.cmds with
  | nil =>
    rw [waiting] at run run'
    cases run
    cases run'
    exact h
  | cons c rest =>
    rw [waiting] at run run'
    dsimp only at run run'
    cases decoded : decode c.word with
    | instr i =>
      rw [decoded] at run run'
      exact exec_alike i (taken c rest) run run'
    | reserved r =>
      rw [decoded] at run run'
      cases run
      cases run'
      exact State.reserved_blind c.word _ _ (taken c rest)

end Sys2Proof.Machine
end
